-- ==== Sys2Proof/Word.lean ====
section
/-! DEFINITION. The word types of the engine and the fixed-size table that holds its register files,
buffers and matrix columns. -/

namespace Sys2Proof

/-- One 32-bit word, the width of every limb, output, matrix column and host transfer (rule R5, `W`). -/
abbrev Word := BitVec 32

/-- One 64-bit word, the width of the MWC64 lane (rule R5, `W64`). -/
abbrev DWord := BitVec 64

/-- A fixed number `n` of like things, in index order. It is a list with its length proved once, so that
two tables compare as two lists. -/
structure Table (α : Type) (n : Nat) where
  toList : List α
  length_toList : toList.length = n
  deriving DecidableEq, Repr

/-- The entry at index `i`. -/
def Table.get {α : Type} {n : Nat} (t : Table α n) (i : Fin n) : α :=
  t.toList[i.val]'(t.length_toList.symm ▸ i.isLt)

/-- The table with the entry at index `i` replaced. -/
def Table.set {α : Type} {n : Nat} (t : Table α n) (i : Fin n) (a : α) : Table α n :=
  ⟨t.toList.set i.val a, by rw [List.length_set, t.length_toList]⟩

/-- `f i, f (i + 1), …`, as many as the last argument says. -/
def listFrom {α : Type} (f : Nat → α) : Nat → Nat → List α
  | _, 0 => []
  | i, k + 1 => f i :: listFrom f (i + 1) k

theorem length_listFrom {α : Type} (f : Nat → α) (i k : Nat) : (listFrom f i k).length = k := by
  induction k generalizing i with
  | zero => rfl
  | succ k ih => rw [listFrom, List.length_cons, ih]

/-- The table whose entry at index `i` is `f i`. -/
def Table.tab {α : Type} (n : Nat) (f : Nat → α) : Table α n :=
  ⟨listFrom f 0 n, length_listFrom f 0 n⟩

/-- The table of `n` equal entries. -/
def Table.fill {α : Type} (n : Nat) (a : α) : Table α n :=
  Table.tab n fun _ => a

end Sys2Proof
end

