-- ==== Sys2Proof/Config.lean ====
section
/-! DEFINITION. The parameters of the engine (rule R5, `00_scope.md`; decisions D6 to D17,
`92_eei_decisions.md`): each is a field whose default is the value column of R5. `Sizes` holds the widths and
capacities, which types are made of; the engine's own are `Config.sizes`. `Values` holds the parameters that
no type depends on; the engine's own are `Machine.params` (`Machine/Params.lean`). `PORT_BASE` is open, and R5
says that no rule depends on it (log entry 10). -/

namespace Sys2Proof

/-- The ten generator units, in the order of their numbers 0..9 (rules R27, R58). -/
inductive UnitId where
  | cong | shr3 | mwc | mwc64 | lfsr113 | lfsr88 | kiss | kiss2 | lfib4 | swb
  deriving DecidableEq, Repr

/-- The constants of one Tausworthe lane (rule R131). -/
structure Lane where
  maskA : Word
  sA : Nat
  sB : Nat
  maskC : Word
  sD : Nat
  /-- the threshold shift -/
  s : Nat
  deriving DecidableEq, Repr

namespace Config

/-- The widths and capacities among the parameters (rule R5). -/
structure Sizes where
  /-- `W`: word width of every limb, output, matrix column and host transfer -/
  w : Nat := 32
  /-- `W64`: width of the MWC64 lane -/
  w64 : Nat := 64
  /-- `NMAT`: matrix registers `M0..M7` (D6) -/
  nMat : Nat := 8
  /-- `NMAX`: the largest matrix width, and the number of columns a matrix register holds (D6) -/
  nMax : Nat := 32
  /-- `NROM`: read-only step matrices (D7) -/
  nRom : Nat := 8
  /-- `NUNITS`: generator units (D8) -/
  nUnits : Nat := 10
  /-- `SQ_DEPTH`: the capacity of the seed queue in entries (D9) -/
  sqDepth : Nat := 512
  /-- `XB_LEN`: words in the exchange buffer (D10) -/
  xbLen : Nat := 257
  /-- `RING`: words in each lagged-Fibonacci ring buffer -/
  ring : Nat := 256
  /-- `JUMPW`: width of the signed jump distance (D11) -/
  jumpW : Nat := 64
  /-- `EXPW`: width of the unsigned MPOW exponent (D11) -/
  expW : Nat := 64
  /-- `WIDEW`: width of the signed integer SQPUSHW splits (D12) -/
  wideW : Nat := 64
  deriving DecidableEq, Repr

/-- The parameters that no type depends on (rule R5). Those marked UNVERIFIED the spec took from general
knowledge (log entry 12). -/
structure Values where
  /-- `SEED_DEFAULT`: the defaults of a unit's seed fields in queue order, the table of rule R166 (D13);
  UNVERIFIED -/
  seedDefault : UnitId → List Word := fun
    | .cong => [0x00000000]
    | .shr3 => [0xFFFFFFFF]
    | .mwc => [0xFFFFFFFF, 0xFFFFFFFF]
    | .mwc64 => [0xFFFFFFFF, 0xFFFFFFFF]
    | .lfsr113 => [0xFFFFFFFF, 0xFFFFFFFF, 0xFFFFFFFF, 0xFFFFFFFF]
    | .lfsr88 => [0xFFFFFFFF, 0xFFFFFFFF, 0xFFFFFFFF]
    | .kiss => [0xFFFFFFFF, 0xFFFFFFFF, 0x00000000, 0xFFFFFFFF]
    | .kiss2 => [0xFFFFFFFF, 0xFFFFFFFF, 0x00000000, 0xFFFFFFFF]
    | .lfib4 => []
    | .swb => []
  /-- `SPREAD_SHIFT`: the left shift of the LFSR seed spread, rule R135 (D14); UNVERIFIED -/
  spreadShift : Nat := 16
  /-- `LFSR113_LANE`: the constants of lanes z1..z4, the table of rule R132 (D15); UNVERIFIED -/
  lfsr113Lane : Fin 4 → Lane := fun
    | 0 => ⟨0x03FFFFFF, 6, 13, 0xFFFFFFFE, 18, 1⟩
    | 1 => ⟨0x3FFFFFFF, 2, 27, 0xFFFFFFF8, 2, 3⟩
    | 2 => ⟨0x0007FFFF, 13, 21, 0xFFFFFFF0, 7, 4⟩
    | 3 => ⟨0x1FFFFFFF, 3, 12, 0xFFFFFF80, 13, 7⟩
  /-- `LFSR88_LANE`: the constants of lanes z1..z3, the table of rule R133 (D15); UNVERIFIED -/
  lfsr88Lane : Fin 3 → Lane := fun
    | 0 => ⟨0x0007FFFF, 13, 19, 0xFFFFFFFE, 12, 1⟩
    | 1 => ⟨0x3FFFFFFF, 2, 25, 0xFFFFFFF8, 4, 3⟩
    | 2 => ⟨0x1FFFFFFF, 3, 11, 0xFFFFFFF0, 17, 4⟩
  /-- `MIXSEL(k, c)`: the field selector of the mixer for k fields, rule R168 (D16) -/
  mixSel : Nat → Word → Nat := fun k c => c.toNat * k / 2 ^ 32
  /-- `BOOT_SEED`: the KISS seed (mwc_upper, mwc_lower, cong, shr3) of the LFIB4/SWB bootstrap, rule R189
  (D17) -/
  bootSeed : Word × Word × Word × Word := (12345, 65435, 12345, 34221)
  /-- `MWCCOMB` reset: the MWC output variant after reset, false = 0 = rotated (rules R15, R40) -/
  mwcCombReset : Bool := false

/-- The widths and capacities this engine is built with: the spec's, each the default of its field. -/
abbrev sizes : Sizes := {}

/-- `NMAT` of this engine. -/
abbrev nMat : Nat := sizes.nMat

/-- `NMAX` of this engine. -/
abbrev nMax : Nat := sizes.nMax

/-- `NROM` of this engine. -/
abbrev nRom : Nat := sizes.nRom

/-- `NUNITS` of this engine. -/
abbrev nUnits : Nat := sizes.nUnits

/-- `SQ_DEPTH` of this engine. -/
abbrev sqDepth : Nat := sizes.sqDepth

/-- `XB_LEN` of this engine. -/
abbrev xbLen : Nat := sizes.xbLen

/-- `RING` of this engine. -/
abbrev ring : Nat := sizes.ring

/-- The word type of the model is `W` bits wide. -/
theorem word_width : Word = BitVec sizes.w := rfl

/-- The type of the MWC64 lane is `W64` bits wide. -/
theorem dword_width : DWord = BitVec sizes.w64 := rfl

end Config

end Sys2Proof
end

