-- ==== Sys2Proof/Syntax.lean ====
section
/-! DEFINITION. The commands of the engine: one constructor of `Instr` for each row of the opcode table
(`30_encoding.md` rules R57 to R60), and the fields of a command word (rule R55). -/

namespace Sys2Proof

/-- A matrix register number 0..7. The numbers 8..15 that a four-bit field could hold name no register
(rule R61), so no term of this type stands for them. -/
abbrev MReg := Fin Config.nMat

/-- A read-only matrix index 0..7 (rule R60). -/
abbrev RomIndex := Fin Config.nRom

/-- The fields of a command word (rule R55). -/
structure CmdFields where
  /-- bits 7:0, the operation code -/
  op : BitVec 8
  /-- bits 11:8, destination matrix register or unit -/
  a : BitVec 4
  /-- bits 15:12, first source matrix register or read-only matrix index -/
  b : BitVec 4
  /-- bits 19:16, second source matrix register -/
  c : BitVec 4
  /-- bits 23:20, flags; bit 0 of the field is X -/
  f : BitVec 4
  /-- bits 31:24, always zero -/
  z : BitVec 8
  deriving DecidableEq, Repr

/-- The commands. An operand that the rule takes from ARG0, ARG1, ARG2 is no part of the command
(rule R56), so a command carries register numbers, the ROM index and the X flag only. -/
inductive Instr where
  /-- NOP, rule R206 -/
  | nop
  /-- CLRF, rule R207: clear the fault record -/
  | clrf
  /-- RST, rule R208: reset the engine -/
  | rst
  /-- SQCLR, rule R158: empty the seed queue -/
  | sqclr
  /-- SQPUSH, rule R159: append `Limb(ARG0)` -/
  | sqpush
  /-- SQPUSHA, rule R160: append `Absent` -/
  | sqpusha
  /-- SQPUSHW, rule R161: split a signed 64-bit integer into limbs and append them -/
  | sqpushw
  /-- SQPUSHX, rule R162: append the valid words of the exchange buffer -/
  | sqpushx
  /-- MUNITY, rule R75 -/
  | munity (md : MReg)
  /-- MSHIFT, rule R76 -/
  | mshift (md : MReg)
  /-- MMASK, rule R77 -/
  | mmask (md : MReg)
  /-- MADD, rule R78 -/
  | madd (md ms1 ms2 : MReg)
  /-- MVMUL, rule R79 -/
  | mvmul (ms1 : MReg)
  /-- MMUL, rule R80 -/
  | mmul (md ms1 ms2 : MReg)
  /-- MPOW, rule R81 -/
  | mpow (md ms1 : MReg)
  /-- MROM, rule R82 -/
  | mrom (md : MReg) (k : RomIndex)
  /-- MGET, rule R83 -/
  | mget (ms1 : MReg)
  /-- MSETCOL, rule R84 -/
  | msetcol (md : MReg)
  /-- SEED.CONG, rule R88: seed the unit from the seed queue; `x` mixes the extra fragments in -/
  | seedCong (x : Bool)
  /-- SEED.SHR3, rule R100 -/
  | seedShr3 (x : Bool)
  /-- SEED.MWC, rule R112 -/
  | seedMwc (x : Bool)
  /-- SEED.MWC64, rule R123 -/
  | seedMwc64 (x : Bool)
  /-- SEED.LFSR113, rule R140 -/
  | seedLfsr113 (x : Bool)
  /-- SEED.LFSR88, rule R148 -/
  | seedLfsr88 (x : Bool)
  /-- SEED.KISS, rule R172 -/
  | seedKiss (x : Bool)
  /-- SEED.KISS2, rule R180 -/
  | seedKiss2 (x : Bool)
  /-- SEED.LFIB4, rule R190 -/
  | seedLfib4 (x : Bool)
  /-- SEED.SWB, rule R198 -/
  | seedSwb (x : Bool)
  /-- ADV.CONG, rule R89: advance one step, result to RES -/
  | advCong
  /-- ADV.SHR3, rule R101 -/
  | advShr3
  /-- ADV.MWC, rule R113 -/
  | advMwc
  /-- ADV.MWC64, rule R124 -/
  | advMwc64
  /-- ADV.LFSR113, rule R141 -/
  | advLfsr113
  /-- ADV.LFSR88, rule R149 -/
  | advLfsr88
  /-- ADV.KISS, rule R173 -/
  | advKiss
  /-- ADV.KISS2, rule R181 -/
  | advKiss2
  /-- ADV.LFIB4, rule R191 -/
  | advLfib4
  /-- ADV.SWB, rule R199 -/
  | advSwb
  /-- CUR.CONG, rule R90: current output to RES -/
  | curCong
  /-- CUR.SHR3, rule R102 -/
  | curShr3
  /-- CUR.MWC, rule R114 -/
  | curMwc
  /-- CUR.MWC64, rule R125 -/
  | curMwc64
  /-- CUR.LFSR113, rule R142 -/
  | curLfsr113
  /-- CUR.LFSR88, rule R150 -/
  | curLfsr88
  /-- CUR.KISS, rule R174 -/
  | curKiss
  /-- CUR.KISS2, rule R182 -/
  | curKiss2
  /-- CUR.LFIB4, rule R192 -/
  | curLfib4
  /-- CUR.SWB, rule R200 -/
  | curSwb
  /-- GETST.CONG, rule R91: state tuple to the exchange buffer -/
  | getstCong
  /-- GETST.SHR3, rule R103 -/
  | getstShr3
  /-- GETST.MWC, rule R115 -/
  | getstMwc
  /-- GETST.MWC64, rule R126 -/
  | getstMwc64
  /-- GETST.LFSR113, rule R143 -/
  | getstLfsr113
  /-- GETST.LFSR88, rule R151 -/
  | getstLfsr88
  /-- GETST.KISS, rule R175 -/
  | getstKiss
  /-- GETST.KISS2, rule R183 -/
  | getstKiss2
  /-- GETST.LFIB4, rule R193 -/
  | getstLfib4
  /-- GETST.SWB, rule R201 -/
  | getstSwb
  /-- SETST.CONG, rule R92: state tuple from the seed queue -/
  | setstCong
  /-- SETST.SHR3, rule R104 -/
  | setstShr3
  /-- SETST.MWC, rule R116 -/
  | setstMwc
  /-- SETST.MWC64, rule R127 -/
  | setstMwc64
  /-- SETST.LFSR113, rule R144 -/
  | setstLfsr113
  /-- SETST.LFSR88, rule R152 -/
  | setstLfsr88
  /-- SETST.KISS, rule R176 -/
  | setstKiss
  /-- SETST.KISS2, rule R184 -/
  | setstKiss2
  /-- SETST.LFIB4, rule R194 -/
  | setstLfib4
  /-- SETST.SWB, rule R202 -/
  | setstSwb
  /-- SAN.CONG, rule R93: sanitize the state -/
  | sanCong
  /-- SAN.SHR3, rule R105 -/
  | sanShr3
  /-- SAN.MWC, rule R117 -/
  | sanMwc
  /-- SAN.MWC64, rule R128 -/
  | sanMwc64
  /-- SAN.LFSR113, rule R145 -/
  | sanLfsr113
  /-- SAN.LFSR88, rule R153 -/
  | sanLfsr88
  /-- SAN.KISS, rule R177 -/
  | sanKiss
  /-- SAN.KISS2, rule R185 -/
  | sanKiss2
  /-- SAN.LFIB4, rule R195 -/
  | sanLfib4
  /-- SAN.SWB, rule R203 -/
  | sanSwb
  /-- JUMP.CONG, rule R94: jump ahead by the signed distance in ARG1:ARG0 -/
  | jumpCong
  /-- JUMP.SHR3, rule R106 -/
  | jumpShr3
  /-- JUMP.MWC, rule R118 -/
  | jumpMwc
  /-- JUMP.MWC64, rule R129 -/
  | jumpMwc64
  /-- JUMP.LFSR113, rule R146 -/
  | jumpLfsr113
  /-- JUMP.LFSR88, rule R154 -/
  | jumpLfsr88
  /-- JUMP.KISS, rule R178 -/
  | jumpKiss
  /-- JUMP.KISS2, rule R186 -/
  | jumpKiss2
  /-- JUMP.LFIB4, rule R196 -/
  | jumpLfib4
  /-- JUMP.SWB, rule R204 -/
  | jumpSwb
  /-- MIX.CONG, rule R95: fold the seed queue into the state -/
  | mixCong
  /-- MIX.SHR3, rule R107 -/
  | mixShr3
  /-- MIX.MWC, rule R119 -/
  | mixMwc
  /-- MIX.MWC64, rule R130 -/
  | mixMwc64
  /-- MIX.LFSR113, rule R147 -/
  | mixLfsr113
  /-- MIX.LFSR88, rule R155 -/
  | mixLfsr88
  /-- MIX.KISS, rule R179 -/
  | mixKiss
  /-- MIX.KISS2, rule R187 -/
  | mixKiss2
  /-- MIX.LFIB4, rule R197 -/
  | mixLfib4
  /-- MIX.SWB, rule R205 -/
  | mixSwb
  deriving DecidableEq, Repr

end Sys2Proof
end

