-- ==== Sys2Proof/WellFormed.lean ====
section
/-! DEFINITION. Which command words are well formed (`30_encoding.md` rules R57 and R61), said of a word's
fields and independently of the decoder. A term of `Instr` is well formed by its type: its register
numbers, ROM index and flag cannot leave their ranges. -/

namespace Sys2Proof

/-- What a four-bit field of a command word holds, for one operation (rule R57). -/
inductive FieldUse where
  /-- marked "0" in the operation's row -/
  | zero
  /-- a matrix register -/
  | matrix
  /-- a generator unit -/
  | unit
  /-- a read-only matrix index -/
  | rom
  deriving DecidableEq, Repr

/-- The legal values of a field (rule R61). -/
def FieldUse.ok : FieldUse → BitVec 4 → Bool
  | .zero, v => v.toNat == 0
  | .matrix, v => v.toNat < Config.nMat
  | .unit, v => v.toNat < Config.nUnits
  | .rom, v => v.toNat < Config.nRom

/-- One row of the opcode map of rule R57: the operation code, the use of the fields A, B, C, and whether
the flag X is defined for it. -/
structure OpRow where
  op : BitVec 8
  a : FieldUse
  b : FieldUse
  c : FieldUse
  x : Bool
  deriving DecidableEq, Repr

/-- The opcode map, 26 operations (rule R57). -/
def opRows : List OpRow :=
  [ ⟨0x00, .zero, .zero, .zero, false⟩,       -- NOP
    ⟨0x01, .zero, .zero, .zero, false⟩,       -- CLRF
    ⟨0x02, .zero, .zero, .zero, false⟩,       -- RST
    ⟨0x08, .zero, .zero, .zero, false⟩,       -- SQCLR
    ⟨0x09, .zero, .zero, .zero, false⟩,       -- SQPUSH
    ⟨0x0A, .zero, .zero, .zero, false⟩,       -- SQPUSHA
    ⟨0x0B, .zero, .zero, .zero, false⟩,       -- SQPUSHW
    ⟨0x0C, .zero, .zero, .zero, false⟩,       -- SQPUSHX
    ⟨0x10, .matrix, .zero, .zero, false⟩,     -- MUNITY
    ⟨0x11, .matrix, .zero, .zero, false⟩,     -- MSHIFT
    ⟨0x12, .matrix, .zero, .zero, false⟩,     -- MMASK
    ⟨0x13, .matrix, .matrix, .matrix, false⟩, -- MADD
    ⟨0x14, .zero, .matrix, .zero, false⟩,     -- MVMUL
    ⟨0x15, .matrix, .matrix, .matrix, false⟩, -- MMUL
    ⟨0x16, .matrix, .matrix, .zero, false⟩,   -- MPOW
    ⟨0x18, .matrix, .rom, .zero, false⟩,      -- MROM
    ⟨0x19, .zero, .matrix, .zero, false⟩,     -- MGET
    ⟨0x1A, .matrix, .zero, .zero, false⟩,     -- MSETCOL
    ⟨0x20, .unit, .zero, .zero, true⟩,        -- SEED
    ⟨0x21, .unit, .zero, .zero, false⟩,       -- ADV
    ⟨0x22, .unit, .zero, .zero, false⟩,       -- CUR
    ⟨0x23, .unit, .zero, .zero, false⟩,       -- GETST
    ⟨0x24, .unit, .zero, .zero, false⟩,       -- SETST
    ⟨0x25, .unit, .zero, .zero, false⟩,       -- SAN
    ⟨0x26, .unit, .zero, .zero, false⟩,       -- JUMP
    ⟨0x27, .unit, .zero, .zero, false⟩ ]      -- MIX

/-- The fields `k` fit the row `r`: its operation code, the legal values of A, B and C, and no flag but X,
where the row has it (rule R61). -/
def OpRow.fits (r : OpRow) (k : CmdFields) : Bool :=
  r.op == k.op && r.a.ok k.a && r.b.ok k.b && r.c.ok k.c && (k.f.toNat == 0 || (r.x && k.f.toNat == 1))

/-- A command word with these fields is legal: bits 31:24 are zero and the rest fits a row (rule R61). -/
def CmdFields.legal (k : CmdFields) : Bool :=
  k.z.toNat == 0 && opRows.any fun r => r.fits k

/-- One row of `opcode_table.json`: a word `w` belongs to it when `w & mask = match` (rule R57). -/
structure TableRow where
  mask : Word
  bits : Word
  deriving DecidableEq, Repr

/-- A word belongs to a row. -/
def TableRow.matches (r : TableRow) (w : Word) : Bool :=
  w &&& r.mask == r.bits

/-- The ten rows of one generator operation, one a unit: `OP | (u << 8)` (rule R59). -/
def unitRows (mask : Word) (op : Nat) : List TableRow :=
  (List.range Config.nUnits).map fun u => ⟨mask, BitVec.ofNat 32 (op + 256 * u)⟩

/-- The 98 rows of `opcode_table.json`, in its order of operations (rule R57). -/
def tableRows : List TableRow :=
  [ ⟨0xFFFFFFFF, 0x00000000⟩, ⟨0xFFFFFFFF, 0x00000001⟩, ⟨0xFFFFFFFF, 0x00000002⟩, -- NOP CLRF RST
    ⟨0xFFFFFFFF, 0x00000008⟩, ⟨0xFFFFFFFF, 0x00000009⟩, ⟨0xFFFFFFFF, 0x0000000A⟩, -- SQCLR SQPUSH SQPUSHA
    ⟨0xFFFFFFFF, 0x0000000B⟩, ⟨0xFFFFFFFF, 0x0000000C⟩,                           -- SQPUSHW SQPUSHX
    ⟨0xFFFFF8FF, 0x00000010⟩, ⟨0xFFFFF8FF, 0x00000011⟩, ⟨0xFFFFF8FF, 0x00000012⟩, -- MUNITY MSHIFT MMASK
    ⟨0xFFF888FF, 0x00000013⟩, ⟨0xFFFF8FFF, 0x00000014⟩, ⟨0xFFF888FF, 0x00000015⟩, -- MADD MVMUL MMUL
    ⟨0xFFFF88FF, 0x00000016⟩, ⟨0xFFFF88FF, 0x00000018⟩, ⟨0xFFFF8FFF, 0x00000019⟩, -- MPOW MROM MGET
    ⟨0xFFFFF8FF, 0x0000001A⟩ ] ++                                                 -- MSETCOL
  unitRows 0xFFEFFFFF 0x20 ++ unitRows 0xFFFFFFFF 0x21 ++                         -- SEED ADV
  unitRows 0xFFFFFFFF 0x22 ++ unitRows 0xFFFFFFFF 0x23 ++                         -- CUR GETST
  unitRows 0xFFFFFFFF 0x24 ++ unitRows 0xFFFFFFFF 0x25 ++                         -- SETST SAN
  unitRows 0xFFFFFFFF 0x26 ++ unitRows 0xFFFFFFFF 0x27                            -- JUMP MIX

end Sys2Proof
end

