-- ==== Sys2Proof/Decode.lean ====
section
/-! DEFINITION. The decoder of command words and, after it, the encoder (`30_encoding.md` rules R55, R57 to
R61 and R63). A command word is the data of a host write to CMD; it is not fetched from anywhere (rule
R51). -/

namespace Sys2Proof

/-- Why a word is no command (rule R61). All of them raise E_ILLEGAL (rule R212). -/
inductive IllegalWord where
  /-- bits 31:24 are not zero -/
  | topBits
  /-- OP is not one of the 26 values of rule R57 -/
  | undefinedOp
  /-- a field the operation does not use is not zero, or a flag it does not have is set -/
  | unusedField
  /-- a matrix register field the operation uses is 8..15 -/
  | noSuchMatrix
  /-- the unit field of a generator operation is 10..15 -/
  | noSuchUnit
  /-- the ROM index of MROM is 8..15 -/
  | noSuchRom
  deriving DecidableEq, Repr

/-- The fields of a word (rule R55). -/
def CmdFields.ofWord (w : Word) : CmdFields where
  op := w.extractLsb' 0 8
  a := w.extractLsb' 8 4
  b := w.extractLsb' 12 4
  c := w.extractLsb' 16 4
  f := w.extractLsb' 20 4
  z := w.extractLsb' 24 8

/-- A four-bit field as one of `n` numbers 0..n-1: the `NMAT` matrix registers or the `NROM` ROM indexes. -/
def indexBelow (n : Nat) (v : BitVec 4) : Option (Fin n) :=
  if h : v.toNat < n then some ⟨v.toNat, h⟩ else none

/-- A four-bit field as a unit number (rule R58). -/
def unitOf (v : BitVec 4) : Option UnitId :=
  match v.toNat with
  | 0 => some .cong
  | 1 => some .shr3
  | 2 => some .mwc
  | 3 => some .mwc64
  | 4 => some .lfsr113
  | 5 => some .lfsr88
  | 6 => some .kiss
  | 7 => some .kiss2
  | 8 => some .lfib4
  | 9 => some .swb
  | _ => none

/-- SEED on a unit (rule R59). -/
def seedOf (x : Bool) : UnitId → Instr
  | .cong => .seedCong x
  | .shr3 => .seedShr3 x
  | .mwc => .seedMwc x
  | .mwc64 => .seedMwc64 x
  | .lfsr113 => .seedLfsr113 x
  | .lfsr88 => .seedLfsr88 x
  | .kiss => .seedKiss x
  | .kiss2 => .seedKiss2 x
  | .lfib4 => .seedLfib4 x
  | .swb => .seedSwb x

/-- ADV on a unit (rule R59). -/
def advOf : UnitId → Instr
  | .cong => .advCong
  | .shr3 => .advShr3
  | .mwc => .advMwc
  | .mwc64 => .advMwc64
  | .lfsr113 => .advLfsr113
  | .lfsr88 => .advLfsr88
  | .kiss => .advKiss
  | .kiss2 => .advKiss2
  | .lfib4 => .advLfib4
  | .swb => .advSwb

/-- CUR on a unit (rule R59). -/
def curOf : UnitId → Instr
  | .cong => .curCong
  | .shr3 => .curShr3
  | .mwc => .curMwc
  | .mwc64 => .curMwc64
  | .lfsr113 => .curLfsr113
  | .lfsr88 => .curLfsr88
  | .kiss => .curKiss
  | .kiss2 => .curKiss2
  | .lfib4 => .curLfib4
  | .swb => .curSwb

/-- GETST on a unit (rule R59). -/
def getstOf : UnitId → Instr
  | .cong => .getstCong
  | .shr3 => .getstShr3
  | .mwc => .getstMwc
  | .mwc64 => .getstMwc64
  | .lfsr113 => .getstLfsr113
  | .lfsr88 => .getstLfsr88
  | .kiss => .getstKiss
  | .kiss2 => .getstKiss2
  | .lfib4 => .getstLfib4
  | .swb => .getstSwb

/-- SETST on a unit (rule R59). -/
def setstOf : UnitId → Instr
  | .cong => .setstCong
  | .shr3 => .setstShr3
  | .mwc => .setstMwc
  | .mwc64 => .setstMwc64
  | .lfsr113 => .setstLfsr113
  | .lfsr88 => .setstLfsr88
  | .kiss => .setstKiss
  | .kiss2 => .setstKiss2
  | .lfib4 => .setstLfib4
  | .swb => .setstSwb

/-- SAN on a unit (rule R59). -/
def sanOf : UnitId → Instr
  | .cong => .sanCong
  | .shr3 => .sanShr3
  | .mwc => .sanMwc
  | .mwc64 => .sanMwc64
  | .lfsr113 => .sanLfsr113
  | .lfsr88 => .sanLfsr88
  | .kiss => .sanKiss
  | .kiss2 => .sanKiss2
  | .lfib4 => .sanLfib4
  | .swb => .sanSwb

/-- JUMP on a unit (rule R59). -/
def jumpOf : UnitId → Instr
  | .cong => .jumpCong
  | .shr3 => .jumpShr3
  | .mwc => .jumpMwc
  | .mwc64 => .jumpMwc64
  | .lfsr113 => .jumpLfsr113
  | .lfsr88 => .jumpLfsr88
  | .kiss => .jumpKiss
  | .kiss2 => .jumpKiss2
  | .lfib4 => .jumpLfib4
  | .swb => .jumpSwb

/-- MIX on a unit (rule R59). -/
def mixOf : UnitId → Instr
  | .cong => .mixCong
  | .shr3 => .mixShr3
  | .mwc => .mixMwc
  | .mwc64 => .mixMwc64
  | .lfsr113 => .mixLfsr113
  | .lfsr88 => .mixLfsr88
  | .kiss => .mixKiss
  | .kiss2 => .mixKiss2
  | .lfib4 => .mixLfib4
  | .swb => .mixSwb

/-- An operation whose row marks A, B, C and F "0". -/
def decodePlain (k : CmdFields) (i : Instr) : Except IllegalWord Instr :=
  if k.a = 0 ∧ k.b = 0 ∧ k.c = 0 ∧ k.f = 0 then .ok i else .error .unusedField

/-- An operation on `Md` alone. -/
def decodeD (k : CmdFields) (mk : MReg → Instr) : Except IllegalWord Instr :=
  match indexBelow Config.nMat k.a with
  | none => .error .noSuchMatrix
  | some d => if k.b = 0 ∧ k.c = 0 ∧ k.f = 0 then .ok (mk d) else .error .unusedField

/-- An operation on `Ms1` alone. -/
def decodeS (k : CmdFields) (mk : MReg → Instr) : Except IllegalWord Instr :=
  match indexBelow Config.nMat k.b with
  | none => .error .noSuchMatrix
  | some s => if k.a = 0 ∧ k.c = 0 ∧ k.f = 0 then .ok (mk s) else .error .unusedField

/-- An operation on `Md` and `Ms1`. -/
def decodeDS (k : CmdFields) (mk : MReg → MReg → Instr) : Except IllegalWord Instr :=
  match indexBelow Config.nMat k.a, indexBelow Config.nMat k.b with
  | some d, some s => if k.c = 0 ∧ k.f = 0 then .ok (mk d s) else .error .unusedField
  | _, _ => .error .noSuchMatrix

/-- An operation on `Md`, `Ms1` and `Ms2`. -/
def decodeDSS (k : CmdFields) (mk : MReg → MReg → MReg → Instr) : Except IllegalWord Instr :=
  match indexBelow Config.nMat k.a, indexBelow Config.nMat k.b, indexBelow Config.nMat k.c with
  | some d, some s, some t => if k.f = 0 then .ok (mk d s t) else .error .unusedField
  | _, _, _ => .error .noSuchMatrix

/-- MROM: `Md` and a ROM index (rule R60). -/
def decodeDK (k : CmdFields) (mk : MReg → RomIndex → Instr) : Except IllegalWord Instr :=
  match indexBelow Config.nMat k.a, indexBelow Config.nRom k.b with
  | some d, some r => if k.c = 0 ∧ k.f = 0 then .ok (mk d r) else .error .unusedField
  | some _, none => .error .noSuchRom
  | none, _ => .error .noSuchMatrix

/-- A generator operation without flags (rule R59). -/
def decodeU (k : CmdFields) (mk : UnitId → Instr) : Except IllegalWord Instr :=
  match unitOf k.a with
  | none => .error .noSuchUnit
  | some u => if k.b = 0 ∧ k.c = 0 ∧ k.f = 0 then .ok (mk u) else .error .unusedField

/-- SEED, whose flag X is bit 20 (rules R55, R59). -/
def decodeSeed (k : CmdFields) : Except IllegalWord Instr :=
  match unitOf k.a with
  | none => .error .noSuchUnit
  | some u =>
    if k.b = 0 ∧ k.c = 0 then
      if k.f = 0 then .ok (seedOf false u)
      else if k.f = 1 then .ok (seedOf true u)
      else .error .unusedField
    else .error .unusedField

/-- The command that the fields A, B, C, F name, for each operation code of rule R57. -/
def decodeOp (k : CmdFields) : Except IllegalWord Instr :=
  match k.op.toNat with
  | 0x00 => decodePlain k .nop
  | 0x01 => decodePlain k .clrf
  | 0x02 => decodePlain k .rst
  | 0x08 => decodePlain k .sqclr
  | 0x09 => decodePlain k .sqpush
  | 0x0A => decodePlain k .sqpusha
  | 0x0B => decodePlain k .sqpushw
  | 0x0C => decodePlain k .sqpushx
  | 0x10 => decodeD k .munity
  | 0x11 => decodeD k .mshift
  | 0x12 => decodeD k .mmask
  | 0x13 => decodeDSS k .madd
  | 0x14 => decodeS k .mvmul
  | 0x15 => decodeDSS k .mmul
  | 0x16 => decodeDS k .mpow
  | 0x18 => decodeDK k .mrom
  | 0x19 => decodeS k .mget
  | 0x1A => decodeD k .msetcol
  | 0x20 => decodeSeed k
  | 0x21 => decodeU k advOf
  | 0x22 => decodeU k curOf
  | 0x23 => decodeU k getstOf
  | 0x24 => decodeU k setstOf
  | 0x25 => decodeU k sanOf
  | 0x26 => decodeU k jumpOf
  | 0x27 => decodeU k mixOf
  | _ => .error .undefinedOp

/-- The decoder: every 32-bit word is one command, or is illegal for a named reason (rules R61, R63). -/
def decode (w : Word) : Except IllegalWord Instr :=
  let k := CmdFields.ofWord w
  if k.z = 0 then decodeOp k else .error .topBits

/-- A register number or ROM index at its place in a command word. -/
def fieldAt {n : Nat} (r : Fin n) (lo : Nat) : Word :=
  BitVec.ofNat 32 r.val <<< lo

/-- The flag X at bit 20. -/
def flagX (x : Bool) : Word :=
  if x then 0x00100000 else 0

/-- The word of a command, from the "Encoding" line of its rule. -/
def encode : Instr → Word
  | .nop => 0x00000000
  | .clrf => 0x00000001
  | .rst => 0x00000002
  | .sqclr => 0x00000008
  | .sqpush => 0x00000009
  | .sqpusha => 0x0000000A
  | .sqpushw => 0x0000000B
  | .sqpushx => 0x0000000C
  | .munity md => 0x10 ||| fieldAt md 8
  | .mshift md => 0x11 ||| fieldAt md 8
  | .mmask md => 0x12 ||| fieldAt md 8
  | .madd md ms1 ms2 => 0x13 ||| fieldAt md 8 ||| fieldAt ms1 12 ||| fieldAt ms2 16
  | .mvmul ms1 => 0x14 ||| fieldAt ms1 12
  | .mmul md ms1 ms2 => 0x15 ||| fieldAt md 8 ||| fieldAt ms1 12 ||| fieldAt ms2 16
  | .mpow md ms1 => 0x16 ||| fieldAt md 8 ||| fieldAt ms1 12
  | .mrom md k => 0x18 ||| fieldAt md 8 ||| fieldAt k 12
  | .mget ms1 => 0x19 ||| fieldAt ms1 12
  | .msetcol md => 0x1A ||| fieldAt md 8
  | .seedCong x => 0x00000020 ||| flagX x
  | .seedShr3 x => 0x00000120 ||| flagX x
  | .seedMwc x => 0x00000220 ||| flagX x
  | .seedMwc64 x => 0x00000320 ||| flagX x
  | .seedLfsr113 x => 0x00000420 ||| flagX x
  | .seedLfsr88 x => 0x00000520 ||| flagX x
  | .seedKiss x => 0x00000620 ||| flagX x
  | .seedKiss2 x => 0x00000720 ||| flagX x
  | .seedLfib4 x => 0x00000820 ||| flagX x
  | .seedSwb x => 0x00000920 ||| flagX x
  | .advCong => 0x00000021
  | .advShr3 => 0x00000121
  | .advMwc => 0x00000221
  | .advMwc64 => 0x00000321
  | .advLfsr113 => 0x00000421
  | .advLfsr88 => 0x00000521
  | .advKiss => 0x00000621
  | .advKiss2 => 0x00000721
  | .advLfib4 => 0x00000821
  | .advSwb => 0x00000921
  | .curCong => 0x00000022
  | .curShr3 => 0x00000122
  | .curMwc => 0x00000222
  | .curMwc64 => 0x00000322
  | .curLfsr113 => 0x00000422
  | .curLfsr88 => 0x00000522
  | .curKiss => 0x00000622
  | .curKiss2 => 0x00000722
  | .curLfib4 => 0x00000822
  | .curSwb => 0x00000922
  | .getstCong => 0x00000023
  | .getstShr3 => 0x00000123
  | .getstMwc => 0x00000223
  | .getstMwc64 => 0x00000323
  | .getstLfsr113 => 0x00000423
  | .getstLfsr88 => 0x00000523
  | .getstKiss => 0x00000623
  | .getstKiss2 => 0x00000723
  | .getstLfib4 => 0x00000823
  | .getstSwb => 0x00000923
  | .setstCong => 0x00000024
  | .setstShr3 => 0x00000124
  | .setstMwc => 0x00000224
  | .setstMwc64 => 0x00000324
  | .setstLfsr113 => 0x00000424
  | .setstLfsr88 => 0x00000524
  | .setstKiss => 0x00000624
  | .setstKiss2 => 0x00000724
  | .setstLfib4 => 0x00000824
  | .setstSwb => 0x00000924
  | .sanCong => 0x00000025
  | .sanShr3 => 0x00000125
  | .sanMwc => 0x00000225
  | .sanMwc64 => 0x00000325
  | .sanLfsr113 => 0x00000425
  | .sanLfsr88 => 0x00000525
  | .sanKiss => 0x00000625
  | .sanKiss2 => 0x00000725
  | .sanLfib4 => 0x00000825
  | .sanSwb => 0x00000925
  | .jumpCong => 0x00000026
  | .jumpShr3 => 0x00000126
  | .jumpMwc => 0x00000226
  | .jumpMwc64 => 0x00000326
  | .jumpLfsr113 => 0x00000426
  | .jumpLfsr88 => 0x00000526
  | .jumpKiss => 0x00000626
  | .jumpKiss2 => 0x00000726
  | .jumpLfib4 => 0x00000826
  | .jumpSwb => 0x00000926
  | .mixCong => 0x00000027
  | .mixShr3 => 0x00000127
  | .mixMwc => 0x00000227
  | .mixMwc64 => 0x00000327
  | .mixLfsr113 => 0x00000427
  | .mixLfsr88 => 0x00000527
  | .mixKiss => 0x00000627
  | .mixKiss2 => 0x00000727
  | .mixLfib4 => 0x00000827
  | .mixSwb => 0x00000927

/-- The command the decoder reads from an opcode-table row's bits. A command is one 32-bit word and the
port moves whole words (rules R46, R54), so the row's bits are the word; bits above `nbits` are zero. -/
def decodeTableWord (nbits w : Nat) : Option Instr :=
  match decode (BitVec.ofNat 32 (w % 2 ^ nbits)) with
  | .ok i => some i
  | .error _ => none

end Sys2Proof
end

