-- ==== Sys2Proof/Machine/Params.lean ====
section
/-! DEFINITION. The parameter values the engine runs with (rule R5). -/

namespace Sys2Proof.Machine

/-- The engine's parameters that no type depends on: the spec's values, each the default of its field in
`Config.Values`. An engine with another value gives that one field here. -/
def params : Config.Values := {}

end Sys2Proof.Machine
end

