-- ==== Sys2Proof/Machine/State.lean ====
section
/-! DEFINITION. The state of the engine (`10_state.md`), the reasons a step could stop, and the state after
reset. -/

namespace Sys2Proof.Machine

/-- A matrix register: a width `n`, 0 while the register has never been written, and 32 columns, each
column one word whose bit r is row r (rule R21). -/
structure Mat where
  n : Nat
  col : Table Word Config.nMax
  deriving DecidableEq, Repr

/-- An entry of the seed queue (rule R25). -/
inductive SqEntry where
  /-- one 32-bit piece of a seed -/
  | limb (w : Word)
  /-- SR's "default/sentinel `none` marker" -/
  | absent
  deriving DecidableEq, Repr

/-- Unit MWC: two lanes (rule R30). -/
structure Mwc where
  upper : Word
  lower : Word
  deriving DecidableEq, Repr

/-- Unit LFSR113: four Tausworthe lanes (rule R32). -/
structure Lfsr113 where
  z1 : Word
  z2 : Word
  z3 : Word
  z4 : Word
  deriving DecidableEq, Repr

/-- Unit LFSR88: three Tausworthe lanes (rule R33). -/
structure Lfsr88 where
  z1 : Word
  z2 : Word
  z3 : Word
  deriving DecidableEq, Repr

/-- Unit KISS, with registers of its own (rules R34, R170). -/
structure Kiss where
  mwc : Mwc
  cong : Word
  shr3 : Word
  deriving DecidableEq, Repr

/-- Unit KISS2, with registers of its own (rules R35, R170). -/
structure Kiss2 where
  mwc64 : DWord
  cong : Word
  shr3 : Word
  deriving DecidableEq, Repr

/-- Unit LFIB4: a ring of 256 words and a cursor that wraps from 255 to 0 (rules R36, R188). -/
structure Lfib4 where
  buf : Table Word Config.ring
  cursor : Fin Config.ring
  deriving DecidableEq, Repr

/-- Unit SWB: a ring and cursor of its own, and the borrow bit (rule R37). -/
structure Swb where
  buf : Table Word Config.ring
  cursor : Fin Config.ring
  borrow : Bool
  deriving DecidableEq, Repr

/-- The nine fault causes (rule R211). These are the engine's recorded faults; none of them stops the
machine. -/
inductive Cause where
  /-- the command word is not a legal encoding -/
  | illegal
  /-- two matrix operands have different widths, or the MVMUL vector is too wide -/
  | width
  /-- a fixed-length sequence has the wrong length or holds an absent marker -/
  | seedLen
  /-- the unit does not have the operation -/
  | unsup
  /-- a numeric operand is outside its legal set -/
  | range
  /-- a matrix source register is unwritten -/
  | empty
  /-- the unit's valid bit is 0 -/
  | unseeded
  /-- the push would make the seed queue longer than 512 -/
  | sqFull
  /-- host access to an unmapped address, or host write to a read-only register -/
  | bus
  deriving DecidableEq, Repr

/-- The record of a fault: STATUS.CAUSE and FCMD (rules R13, R14). -/
structure FaultRecord where
  cause : Cause
  fcmd : Word
  deriving DecidableEq, Repr

/-- What the host can do at the port: the hardware reset (rule R220), `HostRead` and `HostWrite` (rules
R42, R43). An address is a word index 0..0x3FF (rule R41). -/
inductive HostEvent where
  /-- the hardware reset, between transactions -/
  | reset
  /-- `HostRead(addr)` -/
  | read (addr : BitVec 10)
  /-- `HostWrite(addr, v)` -/
  | write (addr : BitVec 10) (v : Word)
  deriving DecidableEq, Repr

/-- The whole state of the engine (rule R10), and after it the two fields of the model's own that stand for
the host's side of the port. -/
structure State where
  /-- STATUS and FCMD: `none` while STATUS.FAULT = 0, when STATUS.CAUSE and FCMD read 0; else the record
  (rules R13, R14) -/
  fault : Option FaultRecord
  /-- MODE.MWCCOMB: false = rotated, true = concatenation (rule R15) -/
  mwcComb : Bool
  /-- ARG0 (rule R16) -/
  arg0 : Word
  /-- ARG1 (rule R16) -/
  arg1 : Word
  /-- ARG2 (rule R16) -/
  arg2 : Word
  /-- RES (rule R17) -/
  res : Word
  /-- the matrix registers M0..M7 (rule R21) -/
  mats : Table Mat Config.nMat
  /-- the seed queue SQ, head first (rule R25); SQCNT is its length (rule R18) -/
  sq : List SqEntry
  /-- the exchange buffer XB (rule R26) -/
  xb : Table Word Config.xbLen
  /-- XLEN, the number of valid words in XB (rules R19, R26) -/
  xlen : Nat
  /-- the valid bits `SEEDED[u]` by unit number (rules R20, R27) -/
  seeded : Table Bool Config.nUnits
  /-- CONG.x (rule R28) -/
  cong : Word
  /-- SHR3.y (rule R29) -/
  shr3 : Word
  /-- unit MWC (rule R30) -/
  mwc : Mwc
  /-- MWC64.s (rule R31) -/
  mwc64 : DWord
  /-- unit LFSR113 (rule R32) -/
  lfsr113 : Lfsr113
  /-- unit LFSR88 (rule R33) -/
  lfsr88 : Lfsr88
  /-- unit KISS (rule R34) -/
  kiss : Kiss
  /-- unit KISS2 (rule R35) -/
  kiss2 : Kiss2
  /-- unit LFIB4 (rule R36) -/
  lfib4 : Lfib4
  /-- unit SWB (rule R37) -/
  swb : Swb
  /-- the MODEL's own: the host's events still to be performed, next first (log entry 1) -/
  inbox : List HostEvent
  /-- the MODEL's own: the word the last `HostRead` returned to the host (log entry 2) -/
  hostData : Word
  deriving DecidableEq, Repr

/-- The reasons the machine could stop with a fault: there are none. Every fault the spec describes is
recorded in STATUS and FCMD and the engine goes on (rules R209, R214), and "no input makes it stop
accepting transactions" (`93_implementation_defined.md` section 1). -/
inductive Fault where
  deriving DecidableEq, Repr

/-- The reasons a step could be refused. -/
inductive Refusal where
  /-- Raised by `exec` for a command that has no meaning yet, named by its mnemonic. Safe: nothing is
  claimed of such a step. No command of this model is left so. -/
  | notModelled (mnemonic : String)
  deriving DecidableEq, Repr

/-- What one command or host event comes to. -/
abbrev Result := Host.Outcome State Fault Refusal

/-- An unwritten matrix register: width 0 and all columns 0 (rules R21, R40). -/
def Mat.unwritten : Mat :=
  ⟨0, Table.fill Config.nMax 0⟩

/-- The machine right after reset (rule R40). The generator fields of the ten units are "unspecified;
unobservable while SEEDED[u] = 0": zero here, a DESIGN CHOICE, unsafe (log entry 3). The host has no event
pending (log entry 1) and has read nothing (log entry 2). -/
def State.reset : State where
  fault := none
  mwcComb := params.mwcCombReset
  arg0 := 0
  arg1 := 0
  arg2 := 0
  res := 0
  mats := Table.fill Config.nMat Mat.unwritten
  sq := []
  xb := Table.fill Config.xbLen 0
  xlen := 0
  seeded := Table.fill Config.nUnits false
  cong := 0
  shr3 := 0
  mwc := ⟨0, 0⟩
  mwc64 := 0
  lfsr113 := ⟨0, 0, 0, 0⟩
  lfsr88 := ⟨0, 0, 0⟩
  kiss := ⟨⟨0, 0⟩, 0, 0⟩
  kiss2 := ⟨0, 0, 0⟩
  lfib4 := ⟨Table.fill Config.ring 0, 0⟩
  swb := ⟨Table.fill Config.ring 0, 0, false⟩
  inbox := []
  hostData := 0

end Sys2Proof.Machine
end

