-- ==== Sys2Proof/Machine/Flags.lean ====
section
/-! DEFINITION. The flag-like state of the engine (rule R38) and the words the host reads it as: SWB's
borrow, STATUS and FCMD, MODE, SEEDED, SQCNT and XLEN (`10_state.md`). There are no condition codes. -/

namespace Sys2Proof.Machine

/-- The difference SWB's advance computes: `(x - y) mod 2^32` (rule R199). -/
def swbDiff (x y : Word) : Word :=
  x - y

/-- The borrow SWB's advance leaves: 1 exactly when `x < y`, with y already reduced (rule R199). -/
def swbBorrow (x y : Word) : Bool :=
  x.toNat < y.toNat

/-- A bit as a word: 0 or 1. -/
def bitWord (b : Bool) : Word :=
  if b then 1 else 0

/-- The number of a unit (rule R58). -/
def unitIndex : UnitId → Fin Config.nUnits
  | .cong => 0
  | .shr3 => 1
  | .mwc => 2
  | .mwc64 => 3
  | .lfsr113 => 4
  | .lfsr88 => 5
  | .kiss => 6
  | .kiss2 => 7
  | .lfib4 => 8
  | .swb => 9

/-- `SEEDED[u]`, the valid bit of unit u (rule R27). -/
def State.isSeeded (s : State) (u : UnitId) : Bool :=
  s.seeded.get (unitIndex u)

/-- The cause codes as STATUS.CAUSE holds them (rule R211). -/
def causeCode : Cause → Word
  | .illegal => 1
  | .width => 2
  | .seedLen => 3
  | .unsup => 4
  | .range => 5
  | .empty => 6
  | .unseeded => 7
  | .sqFull => 8
  | .bus => 9

/-- What STATUS reads: FAULT in bit 0, CAUSE in bits 7:4, zero elsewhere (rule R13). -/
def statusWord (s : State) : Word :=
  match s.fault with
  | none => 0
  | some r => (1 : Word) ||| (causeCode r.cause <<< 4)

/-- What FCMD reads: the record while FAULT = 1, else 0 (rule R14). -/
def fcmdWord (s : State) : Word :=
  match s.fault with
  | none => 0
  | some r => r.fcmd

/-- What MODE reads: MWCCOMB in bit 0, zero elsewhere (rule R15). -/
def modeWord (s : State) : Word :=
  bitWord s.mwcComb

/-- What SQCNT reads: `len(SQ)` (rule R18). -/
def sqcntWord (s : State) : Word :=
  BitVec.ofNat 32 s.sq.length

/-- What XLEN reads (rule R19). -/
def xlenWord (s : State) : Word :=
  BitVec.ofNat 32 s.xlen

/-- The bits of a list as an unsigned number, the first the least significant. -/
def bitsToNat : List Bool → Nat
  | [] => 0
  | b :: bs => b.toNat + 2 * bitsToNat bs

/-- What SEEDED reads: bit u is `SEEDED[u]`, zero elsewhere (rule R20). -/
def seededWord (s : State) : Word :=
  BitVec.ofNat 32 (bitsToNat s.seeded.toList)

/-- What FCMD holds after a bus fault: `{w, 0[20:0], addr[9:0]}`, w = 1 for a host write (rule R14). -/
def busRecord (isWrite : Bool) (addr : BitVec 10) : Word :=
  (bitWord isWrite <<< 31) ||| addr.zeroExtend 32

end Sys2Proof.Machine
end

