-- ==== Sys2Proof/Machine/Operands.lean ====
section
/-! DEFINITION. Where a command's operands come from: the ARG registers (rule R56) and the seed queue (rules
R157, R163 to R165, `43_seed_mix.md`). -/

namespace Sys2Proof.Machine

/-- The bits `{hi, lo}`: `u64(hi, lo) = hi * 2^32 + lo` as an unsigned number, `s64(hi, lo)` as a signed one
(rule R8). -/
def u64 (hi lo : Word) : DWord :=
  hi ++ lo

/-- The high word of a 64-bit value (rule R31). -/
def hiWord (v : DWord) : Word :=
  v.extractLsb' 32 32

/-- The low word of a 64-bit value (rule R31). -/
def loWord (v : DWord) : Word :=
  v.extractLsb' 0 32

/-- The signed distance of a JUMP, `JUMPW` bits: `n = s64(ARG1, ARG0)` (rules R5, R56). -/
def jumpDistance (s : State) : Int :=
  ((u64 s.arg1 s.arg0).setWidth Config.sizes.jumpW).toInt

/-- The unsigned exponent of MPOW, `EXPW` bits: `e = u64(ARG1, ARG0)` (rules R5, R56). -/
def powExponent (s : State) : Nat :=
  ((u64 s.arg1 s.arg0).setWidth Config.sizes.expW).toNat

/-- The signed integer SQPUSHW splits, `WIDEW` bits: `v = s64(ARG1, ARG0)` (rules R5, R56). -/
def wideSeed (s : State) : Int :=
  ((u64 s.arg1 s.arg0).setWidth Config.sizes.wideW).toInt

/-- The matrix width operand of MUNITY, MSHIFT and MMASK: n = ARG0, unsigned (rule R56). -/
def widthOperand (s : State) : Nat :=
  s.arg0.toNat

/-- The legal matrix widths 1..32 (rule R5, `NMAX`). -/
def legalWidth (n : Nat) : Bool :=
  1 ≤ n && n ≤ Config.nMax

/-- The shift operand of MSHIFT: k = ARG1, signed (rule R56). -/
def shiftOperand (s : State) : Int :=
  s.arg1.toInt

/-- At most `k` passes of the splitting of rule R157: the low 32 bits, then the value shifted right by 32,
until 0 or -1 remains. -/
def limbsUpTo : Nat → Int → List Word
  | 0, _ => []
  | k + 1, v =>
    let rest := v / 2 ^ 32
    BitVec.ofInt 32 v :: (if rest = 0 ∨ rest = -1 then [] else limbsUpTo k rest)

/-- `Limbs(v)` for a signed v of `WIDEW` bits (rules R157, R161): after one pass for each word of it nothing
but 0 or -1 can remain. -/
def limbs (v : Int) : List Word :=
  limbsUpTo (Config.sizes.wideW / Config.sizes.w) v

/-- The entry that seed field `j` sees (rule R163): `SQ[j]`, and past the end of the queue the last entry
seen, which is `Absent` if the queue is empty. -/
def seedEntry (q : List SqEntry) (j : Nat) : SqEntry :=
  (q[j]?).getD (q.getLast?.getD .absent)

/-- The value of seed field `j` with default `d`, one element of `SeedVals` (rule R163). -/
def seedField (q : List SqEntry) (j : Nat) (d : Word) : Word :=
  match seedEntry q j with
  | .limb w => w
  | .absent => d

/-- The limb of an entry, if it is one. -/
def limbOf : SqEntry → Option Word
  | .limb w => some w
  | .absent => none

/-- `SeedExtras(k)`: the limbs from entry `k` on, absent markers dropped (rule R164). -/
def seedExtras (k : Nat) (q : List SqEntry) : List Word :=
  (q.drop k).filterMap limbOf

/-- The words of a queue that holds limbs only. -/
def allLimbs : List SqEntry → Option (List Word)
  | [] => some []
  | .absent :: _ => none
  | .limb w :: q => (allLimbs q).map (w :: ·)

/-- `StateVals(k)`: the words of a queue of exactly `k` limbs; none stands for `Fault(E_SEEDLEN)` (rule
R165). -/
def stateVals (k : Nat) (q : List SqEntry) : Option (Table Word k) :=
  match allLimbs q with
  | none => none
  | some l => if h : l.length = k then some ⟨l, h⟩ else none

/-- The default of seed field `j` of unit `u`, from `SEED_DEFAULT` (rules R5, R166). -/
def seedDefault (u : UnitId) (j : Nat) : Word :=
  (params.seedDefault u).getD j 0

/-- What the queue of `s` gives seed field `j` of unit `u`, one element of `SeedVals(k, SEED_DEFAULT)` (rules
R163, R166). -/
def seedVal (u : UnitId) (s : State) (j : Nat) : Word :=
  seedField s.sq j (seedDefault u j)

/-- `MIXSEL(k, c)` (rules R5, R168). -/
def mixSel (k : Nat) (c : Word) : Nat :=
  params.mixSel k c

/-- The state `st` after the limbs of `SeedExtras(k)` are folded in by the unit's one-limb mixer, in queue
order (rule R169). -/
def foldExtras {σ : Type} (mix1 : σ → Word → σ) (k : Nat) (q : List SqEntry) (st : σ) : σ :=
  (seedExtras k q).foldl mix1 st

/-- The seeded state `st`, with the entries after the first `k` mixed in if the flag X is set and dropped
if it is not (rule R167). -/
def seedWith {σ : Type} (mix1 : σ → Word → σ) (x : Bool) (k : Nat) (q : List SqEntry) (st : σ) : σ :=
  if x then foldExtras mix1 k q st else st

end Sys2Proof.Machine
end

