-- ==== Sys2Proof/Machine/Ops.lean ====
section
/-! DEFINITION. The named operations every command is made of: fault entry and the return from a fault
(`60_exceptions.md`), the matrix registers, the exchange buffer, the seed queue, the valid bits, and
reset. -/

namespace Sys2Proof.Machine

/-- Fault entry (rule R214): nothing but the fault record changes, and a record that stands is kept. -/
def raiseFault (c : Cause) (fcmd : Word) (s : State) : State :=
  { s with fault := some (s.fault.getD ⟨c, fcmd⟩) }

/-- Return from a fault, the effect of CLRF (rules R207, R216). -/
def clearFault (s : State) : State :=
  { s with fault := none }

/-- The command `i` ends in the fault `c`: it writes nothing, and FCMD takes its word (rules R14, R214). -/
def trap (c : Cause) (i : Instr) (s : State) : Result :=
  .next (raiseFault c (encode i) s)

/-- A bad host access (rule R53). -/
def busFault (isWrite : Bool) (addr : BitVec 10) (s : State) : State :=
  raiseFault .bus (busRecord isWrite addr) s

/-- A generator command on a unit that must be seeded: E_UNSEEDED if it is not (rule R85). -/
def needSeeded (u : UnitId) (i : Instr) (s done : State) : Result :=
  if s.isSeeded u then .next done else trap .unseeded i s

/-- A command on the state tuple in SQ: E_SEEDLEN unless SQ is exactly `k` limbs (rule R165). -/
def withStateVals (k : Nat) (i : Instr) (s : State) (done : Table Word k → State) : Result :=
  match stateVals k s.sq with
  | none => trap .seedLen i s
  | some v => .next (done v)

/-- What a SEED or SETST of unit u leaves beside the unit's fields: `SEEDED[u] <- 1; SQ <- []` (rules R27,
R167). -/
def markSeeded (u : UnitId) (s : State) : State :=
  { s with seeded := s.seeded.set (unitIndex u) true, sq := [] }

/-- Matrix register `r`. -/
def State.mat (s : State) (r : MReg) : Mat :=
  s.mats.get r

/-- The state with matrix register `r` written. -/
def setMat (r : MReg) (m : Mat) (s : State) : State :=
  { s with mats := s.mats.set r m }

/-- The words `l` put into the exchange buffer: XB holds them and then zeros, XLEN is their number (rule
R26). -/
def putXb (l : List Word) (s : State) : State :=
  { s with xb := Table.tab Config.xbLen fun i => l.getD i 0, xlen := l.length }

/-- The valid words of the exchange buffer, `XB[0 .. XLEN-1]`. -/
def xbWords (s : State) : List Word :=
  s.xb.toList.take s.xlen

/-- The entries `l` appended to the seed queue: E_SQFULL and no entry at all if they do not all fit (rules
R156, R159 to R162). -/
def pushEntries (l : List SqEntry) (i : Instr) (s : State) : Result :=
  if s.sq.length + l.length > Config.sqDepth then trap .sqFull i s
  else .next { s with sq := s.sq ++ l }

/-- Reset of the engine (rules R40, R208, R220). The host's own side of the port, its pending events and
the data it has read, is no state of the engine and stays. -/
def resetEngine (s : State) : State :=
  { State.reset with inbox := s.inbox, hostData := s.hostData }

end Sys2Proof.Machine
end

