-- ==== Sys2Proof/Machine/PowMod.lean ====
section
/-! DEFINITION. Modular exponentiation, `powmod(a, e, m)` of rule R7, which the CONG, MWC and MWC64 jumps
use. -/

namespace Sys2Proof.Machine

/-- Square and multiply, for at most as many passes as the first argument says. -/
def powModLoop : Nat → Nat → Nat → Nat → Nat → Nat
  | 0, _, acc, _, _ => acc
  | k + 1, e, acc, b, m =>
    if e = 0 then acc
    else powModLoop k (e / 2) (if e % 2 = 1 then acc * b % m else acc) (b * b % m) m

/-- `powmod(a, e, m)` for an exponent of at most `W64` bits, as every jump's is once reduced (rules R5, R7,
R232). -/
def powMod (a e m : Nat) : Nat :=
  powModLoop Config.sizes.w64 e (1 % m) (a % m) m

end Sys2Proof.Machine
end

