-- ==== Sys2Proof/Machine/Cong.lean ====
section
/-! DEFINITION. Unit CONG (`41_primitive_generators.md` rules R86 to R95): the recurrence, its jump, and the
eight commands. -/

namespace Sys2Proof.Machine

/-- `Step_CONG(x) = (69069 * x + 12345) mod 2^32` (rule R86). -/
def stepCong (x : Word) : Word :=
  69069 * x + 12345

/-- `Out_CONG(x) = x` (rule R86). -/
def outCong (x : Word) : Word :=
  x

/-- `San_CONG(x) = x`: there are no forbidden states (rule R86). -/
def sanCong (x : Word) : Word :=
  x

/-- `CONG_CYCLE = 2^32` (rules R24, R87). -/
def congCycle : Nat :=
  4294967296

/-- `Geom`: `1 + r + … + r^(e-1) mod 2^32` for r = 69069, by the division of rule R87. -/
def congGeom (e : Nat) : Nat :=
  (powMod 69069 e (2 ^ 34) - 1) / 4 * 0x50C599BB % 2 ^ 32

/-- `Jump_CONG(x, n)` (rule R87). -/
def jumpCong (x : Word) (n : Int) : Word :=
  let e := (n % congCycle).toNat
  BitVec.ofNat 32 (powMod 69069 e (2 ^ 32) * x.toNat + 12345 * congGeom e)

/-- The one-limb mixer of CONG (rules R95, R169). -/
def mix1Cong (x w : Word) : Word :=
  stepCong (sanCong (x ^^^ w))

/-- SEED CONG (rule R88; default of rule R166). -/
def execSeedCong (x : Bool) (s : State) : Result :=
  let x0 := sanCong (seedVal .cong s 0)
  .next { markSeeded .cong s with cong := seedWith mix1Cong x 1 s.sq x0 }

/-- ADV CONG (rule R89). -/
def execAdvCong (s : State) : Result :=
  let x := stepCong s.cong
  needSeeded .cong .advCong s { s with cong := x, res := outCong x }

/-- CUR CONG (rule R90). -/
def execCurCong (s : State) : Result :=
  needSeeded .cong .curCong s { s with res := outCong s.cong }

/-- GETST CONG (rule R91). -/
def execGetstCong (s : State) : Result :=
  needSeeded .cong .getstCong s (putXb [s.cong] s)

/-- SETST CONG (rule R92). -/
def execSetstCong (s : State) : Result :=
  withStateVals 1 .setstCong s fun v => { markSeeded .cong s with cong := sanCong (v.get 0) }

/-- SAN CONG (rule R93). -/
def execSanCong (s : State) : Result :=
  needSeeded .cong .sanCong s { s with cong := sanCong s.cong }

/-- JUMP CONG (rule R94). -/
def execJumpCong (s : State) : Result :=
  needSeeded .cong .jumpCong s { s with cong := jumpCong s.cong (jumpDistance s) }

/-- MIX CONG (rule R95). -/
def execMixCong (s : State) : Result :=
  needSeeded .cong .mixCong s { s with cong := foldExtras mix1Cong 0 s.sq s.cong, sq := [] }

end Sys2Proof.Machine
end

