-- ==== Sys2Proof/Machine/Mwc.lean ====
section
/-! DEFINITION. Unit MWC (`41_primitive_generators.md` rules R108 to R119): the two lanes, the two output
variants, and the eight commands. -/

namespace Sys2Proof.Machine

/-- `MWCU_MULT` (rule R24). -/
def mwcuMult : Nat := 36969

/-- `MWCU_MOD = 36969·2^16 − 1` (rules R24, R110). -/
def mwcuMod : Nat := 2422800383

/-- `MWCU_CYCLE = 36969·2^15 − 1` (rules R24, R111). -/
def mwcuCycle : Nat := 1211400191

/-- `MWCL_MULT` (rule R24). -/
def mwclMult : Nat := 18000

/-- `MWCL_MOD = 18000·2^16 − 1` (rules R24, R110). -/
def mwclMod : Nat := 1179647999

/-- `MWCL_CYCLE = 18000·2^15 − 1` (rules R24, R111). -/
def mwclCycle : Nat := 589823999

/-- `StepU(u)` (rule R108). -/
def stepU (u : Word) : Word :=
  (36969 : Word) * (u &&& (0xFFFF : Word)) + (u >>> 16)

/-- `StepL(l)` (rule R108). -/
def stepL (l : Word) : Word :=
  (18000 : Word) * (l &&& (0xFFFF : Word)) + (l >>> 16)

/-- `SanMod(v, m)`: reduce, and where that gives 0 reduce the inverted value (rule R110). -/
def sanMod (v : Word) (m : Nat) : Word :=
  if v.toNat % m ≠ 0 then BitVec.ofNat 32 (v.toNat % m)
  else BitVec.ofNat 32 ((v ^^^ 0xFFFFFFFF).toNat % m)

/-- `SanU(u)` (rule R110). -/
def sanU (u : Word) : Word :=
  sanMod u mwcuMod

/-- `SanL(l)` (rule R110). -/
def sanL (l : Word) : Word :=
  sanMod l mwclMod

/-- A multiplicative lane jumped by n: the multiplier's power modulo the lane's modulus, the exponent
reduced by the lane's cycle length (rule R111). -/
def jumpMul (mult m cycle v : Nat) (n : Int) : Nat :=
  powMod mult (n % cycle).toNat m * v % m

/-- `JumpU(u, n)` (rule R111). -/
def jumpU (u : Word) (n : Int) : Word :=
  BitVec.ofNat 32 (jumpMul mwcuMult mwcuMod mwcuCycle u.toNat n)

/-- `JumpL(l, n)` (rule R111). -/
def jumpL (l : Word) (n : Int) : Word :=
  BitVec.ofNat 32 (jumpMul mwclMult mwclMod mwclCycle l.toNat n)

/-- `Out_MWC(upper, lower, comb)`: the rotated variant for comb = 0, the concatenation for comb = 1 (rule
R109). -/
def outMwc (m : Mwc) (comb : Bool) : Word :=
  if comb then ((m.upper &&& 0xFFFF) <<< 16) + m.lower
  else ((m.upper &&& 0xFFFF) <<< 16) + (m.upper >>> 16) + m.lower

/-- Both lanes stepped (rule R113). -/
def stepMwc (m : Mwc) : Mwc :=
  ⟨stepU m.upper, stepL m.lower⟩

/-- Both lanes sanitized (rule R117). -/
def sanMwc (m : Mwc) : Mwc :=
  ⟨sanU m.upper, sanL m.lower⟩

/-- Both lanes jumped by the same n (rule R118). -/
def jumpMwc (m : Mwc) (n : Int) : Mwc :=
  ⟨jumpU m.upper n, jumpL m.lower n⟩

/-- `Mix1_MWC(u, l, w, comb)` (rule R119). -/
def mix1Mwc (comb : Bool) (m : Mwc) (w : Word) : Mwc :=
  if mixSel 2 (outMwc m comb) = 0 then { m with upper := stepU (sanU (m.upper ^^^ w)) }
  else { m with lower := stepL (sanL (m.lower ^^^ w)) }

/-- SEED MWC (rule R112; defaults of rule R166). -/
def execSeedMwc (x : Bool) (s : State) : Result :=
  let m := sanMwc ⟨seedVal .mwc s 0, seedVal .mwc s 1⟩
  .next { markSeeded .mwc s with mwc := seedWith (mix1Mwc s.mwcComb) x 2 s.sq m }

/-- ADV MWC (rule R113). -/
def execAdvMwc (s : State) : Result :=
  let m := stepMwc s.mwc
  needSeeded .mwc .advMwc s { s with mwc := m, res := outMwc m s.mwcComb }

/-- CUR MWC (rule R114). -/
def execCurMwc (s : State) : Result :=
  needSeeded .mwc .curMwc s { s with res := outMwc s.mwc s.mwcComb }

/-- GETST MWC (rule R115). -/
def execGetstMwc (s : State) : Result :=
  needSeeded .mwc .getstMwc s (putXb [s.mwc.upper, s.mwc.lower] s)

/-- SETST MWC (rule R116). -/
def execSetstMwc (s : State) : Result :=
  withStateVals 2 .setstMwc s fun v => { markSeeded .mwc s with mwc := sanMwc ⟨v.get 0, v.get 1⟩ }

/-- SAN MWC (rule R117). -/
def execSanMwc (s : State) : Result :=
  needSeeded .mwc .sanMwc s { s with mwc := sanMwc s.mwc }

/-- JUMP MWC (rule R118). -/
def execJumpMwc (s : State) : Result :=
  needSeeded .mwc .jumpMwc s { s with mwc := jumpMwc s.mwc (jumpDistance s) }

/-- MIX MWC (rule R119). -/
def execMixMwc (s : State) : Result :=
  needSeeded .mwc .mixMwc s { s with mwc := foldExtras (mix1Mwc s.mwcComb) 0 s.sq s.mwc, sq := [] }

end Sys2Proof.Machine
end

