-- ==== Sys2Proof/Machine/Mwc64.lean ====
section
/-! DEFINITION. Unit MWC64 (`41_primitive_generators.md` rules R120 to R130): one 64-bit lane, and the eight
commands. -/

namespace Sys2Proof.Machine

/-- `MWC64_MULT` (rule R24). -/
def mwc64Mult : Nat := 698769069

/-- `MWC64_MOD = 698769069·2^32 − 1` (rule R24). -/
def mwc64Mod : Nat := 3001190298811367423

/-- `MWC64_CYCLE = 698769069·2^31 − 1` (rules R24, R122). -/
def mwc64Cycle : Nat := 1500595149405683711

/-- `Step_MWC64(s)` (rule R120). -/
def stepMwc64 (v : DWord) : DWord :=
  BitVec.ofNat 64 (mwc64Mult * v.toNat % mwc64Mod)

/-- `Out_MWC64(s) = s[31:0]` (rule R120). -/
def outMwc64 (v : DWord) : Word :=
  loWord v

/-- `San_MWC64(s)` (rule R121). -/
def sanMwc64 (v : DWord) : DWord :=
  if v.toNat % mwc64Mod ≠ 0 then BitVec.ofNat 64 (v.toNat % mwc64Mod)
  else BitVec.ofNat 64 ((v ^^^ 0xFFFFFFFFFFFFFFFF).toNat % mwc64Mod)

/-- `Jump_MWC64(s, n)` (rule R122). -/
def jumpMwc64 (v : DWord) (n : Int) : DWord :=
  BitVec.ofNat 64 (jumpMul mwc64Mult mwc64Mod mwc64Cycle v.toNat n)

/-- `Mix1_MWC64(s, w)`: the limb goes into the high or the low word, and the whole lane is sanitized and
advanced (rule R130). -/
def mix1Mwc64 (v : DWord) (w : Word) : DWord :=
  let t := if mixSel 2 (outMwc64 v) = 0 then v ^^^ u64 w 0 else v ^^^ u64 0 w
  stepMwc64 (sanMwc64 t)

/-- SEED MWC64, high word first (rule R123; defaults of rule R166). -/
def execSeedMwc64 (x : Bool) (s : State) : Result :=
  let v := sanMwc64 (u64 (seedVal .mwc64 s 0) (seedVal .mwc64 s 1))
  .next { markSeeded .mwc64 s with mwc64 := seedWith mix1Mwc64 x 2 s.sq v }

/-- ADV MWC64 (rule R124). -/
def execAdvMwc64 (s : State) : Result :=
  let v := stepMwc64 s.mwc64
  needSeeded .mwc64 .advMwc64 s { s with mwc64 := v, res := outMwc64 v }

/-- CUR MWC64 (rule R125). -/
def execCurMwc64 (s : State) : Result :=
  needSeeded .mwc64 .curMwc64 s { s with res := outMwc64 s.mwc64 }

/-- GETST MWC64, high word first (rule R126). -/
def execGetstMwc64 (s : State) : Result :=
  needSeeded .mwc64 .getstMwc64 s (putXb [hiWord s.mwc64, loWord s.mwc64] s)

/-- SETST MWC64 (rule R127). -/
def execSetstMwc64 (s : State) : Result :=
  withStateVals 2 .setstMwc64 s fun v =>
    { markSeeded .mwc64 s with mwc64 := sanMwc64 (u64 (v.get 0) (v.get 1)) }

/-- SAN MWC64 (rule R128). -/
def execSanMwc64 (s : State) : Result :=
  needSeeded .mwc64 .sanMwc64 s { s with mwc64 := sanMwc64 s.mwc64 }

/-- JUMP MWC64 (rule R129). -/
def execJumpMwc64 (s : State) : Result :=
  needSeeded .mwc64 .jumpMwc64 s { s with mwc64 := jumpMwc64 s.mwc64 (jumpDistance s) }

/-- MIX MWC64 (rule R130). -/
def execMixMwc64 (s : State) : Result :=
  needSeeded .mwc64 .mixMwc64 s { s with mwc64 := foldExtras mix1Mwc64 0 s.sq s.mwc64, sq := [] }

end Sys2Proof.Machine
end

