-- ==== Sys2Proof/Machine/Gf2.lean ====
section
/-! DEFINITION. The GF(2) bit-column-matrix functions (`40_gf2_matrix.md` rules R66 to R72). -/

namespace Sys2Proof.Machine

/-- A matrix of width `n` from its columns: `f i` below the width and zero from it up. -/
def matOf (n : Nat) (f : Nat → Word) : Mat :=
  ⟨n, Table.tab Config.nMax fun i => if i < n then f i else 0⟩

/-- `Unity(n)` (rule R66). -/
def unity (n : Nat) : Mat :=
  matOf n fun i => (1 : Word) <<< i

/-- `Shift(n, k)`: left by k, right by -k for a negative k; bits shifted out are lost (rule R67). -/
def shiftMat (n : Nat) (k : Int) : Mat :=
  matOf n fun i => if 0 ≤ (i : Int) + k ∧ (i : Int) + k < n then (1 : Word) <<< ((i : Int) + k).toNat else 0

/-- `InRange(i, start, end)`, half open, wrapping when end < start (rule R68). -/
def inRange (i start stop : Nat) : Bool :=
  if start ≤ stop then decide (start ≤ i ∧ i < stop) else decide (i ≥ start ∨ i < stop)

/-- `Mask(n, start, end)`: the bit positions in the range are kept (rule R68). -/
def maskMat (n start stop : Nat) : Mat :=
  matOf n fun i => if inRange i start stop then (1 : Word) <<< i else 0

/-- Column `i` of a matrix. -/
def Mat.column (m : Mat) (i : Nat) : Word :=
  m.col.toList.getD i 0

/-- The columns with column `i` replaced; an index past the last column replaces none (rule R84). -/
def setColumn (col : Table Word Config.nMax) (i : Nat) (v : Word) : Table Word Config.nMax :=
  ⟨col.toList.set i v, by rw [List.length_set, col.length_toList]⟩

/-- `MatAdd(P, Q)`: column-wise XOR; subtraction is the same function (rule R69). -/
def matAdd (p q : Mat) : Mat :=
  ⟨p.n, Table.tab Config.nMax fun i => p.column i ^^^ q.column i⟩

/-- The XOR of the columns whose bit of `v` is set, the first column standing at bit `i`. -/
def xorColumns : List Word → Nat → Word → Word
  | [], _, _ => 0
  | c :: cs, i, v => (if v.getLsbD i then c else 0) ^^^ xorColumns cs (i + 1) v

/-- `MatVec(P, v)`: the XOR of the columns below the width whose bit of `v` is set (rule R70). -/
def matVec (p : Mat) (v : Word) : Word :=
  xorColumns (p.col.toList.take p.n) 0 v

/-- `MatMul(P, Q)`: `P` applied to each column of `Q`, so Q's transform comes first (rule R71). -/
def matMul (p q : Mat) : Mat :=
  matOf p.n fun i => matVec p (q.column i)

/-- The squaring loop of rule R72, for at most as many passes as the first argument says. -/
def matPowLoop : Nat → Nat → Mat → Mat → Mat
  | 0, _, r, _ => r
  | k + 1, e, r, s =>
    if e = 0 then r
    else matPowLoop k (e / 2) (if e % 2 = 1 then matMul r s else r) (matMul s s)

/-- `MatPow(P, e)` for an exponent of `EXPW` bits, or of `W` bits as the jumps of the GF(2) lanes have it,
which takes at most as many passes (rules R5, R72). -/
def matPow (p : Mat) (e : Nat) : Mat :=
  matPowLoop (max Config.sizes.expW Config.sizes.w) e (unity p.n) p

end Sys2Proof.Machine
end

