-- ==== Sys2Proof/Machine/Shr3.lean ====
section
/-! DEFINITION. Unit SHR3 (`41_primitive_generators.md` rules R96 to R107): the recurrence, its step matrix,
and the eight commands. -/

namespace Sys2Proof.Machine

/-- `Step_SHR3(y)`: the shift triple 13, 17, 5 (rule R96). -/
def stepShr3 (y : Word) : Word :=
  let a := y ^^^ ((y &&& 0x0007FFFF) <<< 13)
  let b := a ^^^ (a >>> 17)
  b ^^^ ((b &&& 0x07FFFFFF) <<< 5)

/-- `Out_SHR3(y) = y` (rule R96). -/
def outShr3 (y : Word) : Word :=
  y

/-- `San_SHR3(y)`: 0 is replaced by all ones (rule R97). -/
def sanShr3 (y : Word) : Word :=
  if y = 0 then 0xFFFFFFFF else y

/-- `SHR3_MAT`, the product of the three factors, the first XOR line rightmost (rule R98). -/
def shr3Mat : Mat :=
  let a := matAdd (unity 32) (shiftMat 32 13)
  let b := matAdd (unity 32) (shiftMat 32 (-17))
  let c := matAdd (unity 32) (shiftMat 32 5)
  matMul c (matMul b a)

/-- `SHR3_CYCLE = 2^32 - 1` (rules R24, R99). -/
def shr3Cycle : Nat :=
  4294967295

/-- `Jump_SHR3(y, n)` (rule R99). -/
def jumpShr3 (y : Word) (n : Int) : Word :=
  matVec (matPow shr3Mat (n % shr3Cycle).toNat) y

/-- The one-limb mixer of SHR3: the limb is XORed in, the lane sanitized and advanced once (rules R107,
R169). -/
def mix1Shr3 (y w : Word) : Word :=
  stepShr3 (sanShr3 (y ^^^ w))

/-- SEED SHR3 (rule R100; default of rule R166). -/
def execSeedShr3 (x : Bool) (s : State) : Result :=
  let y := sanShr3 (seedVal .shr3 s 0)
  .next { markSeeded .shr3 s with shr3 := seedWith mix1Shr3 x 1 s.sq y }

/-- ADV SHR3 (rule R101). -/
def execAdvShr3 (s : State) : Result :=
  let y := stepShr3 s.shr3
  needSeeded .shr3 .advShr3 s { s with shr3 := y, res := outShr3 y }

/-- CUR SHR3 (rule R102). -/
def execCurShr3 (s : State) : Result :=
  needSeeded .shr3 .curShr3 s { s with res := outShr3 s.shr3 }

/-- GETST SHR3 (rule R103). -/
def execGetstShr3 (s : State) : Result :=
  needSeeded .shr3 .getstShr3 s (putXb [s.shr3] s)

/-- SETST SHR3 (rule R104). -/
def execSetstShr3 (s : State) : Result :=
  withStateVals 1 .setstShr3 s fun v => { markSeeded .shr3 s with shr3 := sanShr3 (v.get 0) }

/-- SAN SHR3 (rule R105). -/
def execSanShr3 (s : State) : Result :=
  needSeeded .shr3 .sanShr3 s { s with shr3 := sanShr3 s.shr3 }

/-- JUMP SHR3 (rule R106). -/
def execJumpShr3 (s : State) : Result :=
  needSeeded .shr3 .jumpShr3 s { s with shr3 := jumpShr3 s.shr3 (jumpDistance s) }

/-- MIX SHR3 (rule R107). -/
def execMixShr3 (s : State) : Result :=
  needSeeded .shr3 .mixShr3 s { s with shr3 := foldExtras mix1Shr3 0 s.sq s.shr3, sq := [] }

end Sys2Proof.Machine
end

