-- ==== Sys2Proof/Machine/Kiss.lean ====
section
/-! DEFINITION. The composite units KISS and KISS2 (`44_composite_generators.md`): each owns its constituents
(rule R170) and delegates to the constituents' functions. -/

namespace Sys2Proof.Machine

/-- `Out_KISS`: `(mwc ^ cong) + shr3`, the MWC part always rotated (rule R171). -/
def outKiss (k : Kiss) : Word :=
  (outMwc k.mwc false ^^^ k.cong) + k.shr3

/-- All constituents stepped (rule R173). -/
def stepKiss (k : Kiss) : Kiss :=
  ⟨stepMwc k.mwc, stepCong k.cong, stepShr3 k.shr3⟩

/-- Each constituent's own sanitization (rules R172, R176, R177). -/
def sanKiss (k : Kiss) : Kiss :=
  ⟨sanMwc k.mwc, sanCong k.cong, sanShr3 k.shr3⟩

/-- `n` delegated unchanged to every constituent (rule R178). -/
def jumpKiss (k : Kiss) (n : Int) : Kiss :=
  ⟨jumpMwc k.mwc n, jumpCong k.cong n, jumpShr3 k.shr3 n⟩

/-- `Mix1_KISS`: the output selects a constituent, whose own one-limb mixer takes the limb (rule R179). -/
def mix1Kiss (k : Kiss) (w : Word) : Kiss :=
  match mixSel 3 (outKiss k) with
  | 0 => { k with mwc := mix1Mwc false k.mwc w }
  | 1 => { k with cong := mix1Cong k.cong w }
  | _ => { k with shr3 := mix1Shr3 k.shr3 w }

/-- The state tuple of KISS (rule R34). -/
def tupleKiss (k : Kiss) : List Word :=
  [k.mwc.upper, k.mwc.lower, k.cong, k.shr3]

/-- SEED KISS (rule R172; defaults of rule R166). -/
def execSeedKiss (x : Bool) (s : State) : Result :=
  let k := sanKiss ⟨⟨seedVal .kiss s 0, seedVal .kiss s 1⟩, seedVal .kiss s 2, seedVal .kiss s 3⟩
  .next { markSeeded .kiss s with kiss := seedWith mix1Kiss x 4 s.sq k }

/-- ADV KISS (rule R173). -/
def execAdvKiss (s : State) : Result :=
  let k := stepKiss s.kiss
  needSeeded .kiss .advKiss s { s with kiss := k, res := outKiss k }

/-- CUR KISS (rule R174). -/
def execCurKiss (s : State) : Result :=
  needSeeded .kiss .curKiss s { s with res := outKiss s.kiss }

/-- GETST KISS (rule R175). -/
def execGetstKiss (s : State) : Result :=
  needSeeded .kiss .getstKiss s (putXb (tupleKiss s.kiss) s)

/-- SETST KISS (rule R176). -/
def execSetstKiss (s : State) : Result :=
  withStateVals 4 .setstKiss s fun v =>
    { markSeeded .kiss s with kiss := sanKiss ⟨⟨v.get 0, v.get 1⟩, v.get 2, v.get 3⟩ }

/-- SAN KISS (rule R177). -/
def execSanKiss (s : State) : Result :=
  needSeeded .kiss .sanKiss s { s with kiss := sanKiss s.kiss }

/-- JUMP KISS (rule R178). -/
def execJumpKiss (s : State) : Result :=
  needSeeded .kiss .jumpKiss s { s with kiss := jumpKiss s.kiss (jumpDistance s) }

/-- MIX KISS (rule R179). -/
def execMixKiss (s : State) : Result :=
  needSeeded .kiss .mixKiss s { s with kiss := foldExtras mix1Kiss 0 s.sq s.kiss, sq := [] }

/-- `Out_KISS2`: `mwc + cong + shr3` (rule R171). -/
def outKiss2 (k : Kiss2) : Word :=
  outMwc64 k.mwc64 + k.cong + k.shr3

/-- All constituents stepped (rule R181). -/
def stepKiss2 (k : Kiss2) : Kiss2 :=
  ⟨stepMwc64 k.mwc64, stepCong k.cong, stepShr3 k.shr3⟩

/-- Each constituent's own sanitization (rules R180, R184, R185). -/
def sanKiss2 (k : Kiss2) : Kiss2 :=
  ⟨sanMwc64 k.mwc64, sanCong k.cong, sanShr3 k.shr3⟩

/-- `n` delegated unchanged to every constituent (rule R186). -/
def jumpKiss2 (k : Kiss2) (n : Int) : Kiss2 :=
  ⟨jumpMwc64 k.mwc64 n, jumpCong k.cong n, jumpShr3 k.shr3 n⟩

/-- `Mix1_KISS2` (rule R187). -/
def mix1Kiss2 (k : Kiss2) (w : Word) : Kiss2 :=
  match mixSel 3 (outKiss2 k) with
  | 0 => { k with mwc64 := mix1Mwc64 k.mwc64 w }
  | 1 => { k with cong := mix1Cong k.cong w }
  | _ => { k with shr3 := mix1Shr3 k.shr3 w }

/-- The state tuple of KISS2, high word of the 64-bit lane first (rule R35). -/
def tupleKiss2 (k : Kiss2) : List Word :=
  [hiWord k.mwc64, loWord k.mwc64, k.cong, k.shr3]

/-- SEED KISS2 (rule R180; defaults of rule R166). -/
def execSeedKiss2 (x : Bool) (s : State) : Result :=
  let k := sanKiss2 ⟨u64 (seedVal .kiss2 s 0) (seedVal .kiss2 s 1), seedVal .kiss2 s 2, seedVal .kiss2 s 3⟩
  .next { markSeeded .kiss2 s with kiss2 := seedWith mix1Kiss2 x 4 s.sq k }

/-- ADV KISS2 (rule R181). -/
def execAdvKiss2 (s : State) : Result :=
  let k := stepKiss2 s.kiss2
  needSeeded .kiss2 .advKiss2 s { s with kiss2 := k, res := outKiss2 k }

/-- CUR KISS2 (rule R182). -/
def execCurKiss2 (s : State) : Result :=
  needSeeded .kiss2 .curKiss2 s { s with res := outKiss2 s.kiss2 }

/-- GETST KISS2 (rule R183). -/
def execGetstKiss2 (s : State) : Result :=
  needSeeded .kiss2 .getstKiss2 s (putXb (tupleKiss2 s.kiss2) s)

/-- SETST KISS2 (rule R184). -/
def execSetstKiss2 (s : State) : Result :=
  withStateVals 4 .setstKiss2 s fun v =>
    { markSeeded .kiss2 s with kiss2 := sanKiss2 ⟨u64 (v.get 0) (v.get 1), v.get 2, v.get 3⟩ }

/-- SAN KISS2 (rule R185). -/
def execSanKiss2 (s : State) : Result :=
  needSeeded .kiss2 .sanKiss2 s { s with kiss2 := sanKiss2 s.kiss2 }

/-- JUMP KISS2 (rule R186). -/
def execJumpKiss2 (s : State) : Result :=
  needSeeded .kiss2 .jumpKiss2 s { s with kiss2 := jumpKiss2 s.kiss2 (jumpDistance s) }

/-- MIX KISS2 (rule R187). -/
def execMixKiss2 (s : State) : Result :=
  needSeeded .kiss2 .mixKiss2 s { s with kiss2 := foldExtras mix1Kiss2 0 s.sq s.kiss2, sq := [] }

end Sys2Proof.Machine
end

