-- ==== Sys2Proof/Machine/Lagged.lean ====
section
/-! DEFINITION. The lagged-Fibonacci units LFIB4 and SWB (`45_lagged_fibonacci.md`): the shared ring, the
bootstrap table, and the eight commands of each unit. -/

namespace Sys2Proof.Machine

/-- KISS seeded with `BOOT_SEED` as its SEED would seed it (rules R5, R189). -/
def bootSeed : Kiss :=
  let (upper, lower, cong, shr3) := params.bootSeed
  sanKiss ⟨⟨upper, lower⟩, cong, shr3⟩

/-- The next outputs of a KISS. -/
def kissOutputs : Nat → Kiss → List Word
  | 0, _ => []
  | n + 1, k => outKiss (stepKiss k) :: kissOutputs n (stepKiss k)

theorem length_kissOutputs (n : Nat) (k : Kiss) : (kissOutputs n k).length = n := by
  induction n generalizing k with
  | zero => rfl
  | succ n ih => rw [kissOutputs, List.length_cons, ih]

/-- `BOOT[0..255]`, the first 256 outputs of a private KISS (rules R39, R189). -/
def boot : Table Word Config.ring :=
  ⟨kissOutputs Config.ring bootSeed, length_kissOutputs Config.ring bootSeed⟩

/-- The buffer rotated so that element i is `buf[(cursor + i) % 256]` (rules R36, R193). -/
def rotated (buf : Table Word Config.ring) (cursor : Fin Config.ring) : List Word :=
  listFrom (fun i => buf.get (cursor + Fin.ofNat Config.ring i)) 0 Config.ring

/-- What SEED puts into a ring: the bootstrap for an empty queue, else exactly 256 limbs (rule R190). -/
def seedRing (q : List SqEntry) : Option (Table Word Config.ring) :=
  if q = [] then some boot else stateVals Config.ring q

/-- SEED of a ring unit: E_UNSUP with X, then E_SEEDLEN (rules R190, R198). -/
def seedRingUnit (x : Bool) (i : Instr) (s : State) (done : Table Word Config.ring → State) : Result :=
  if x then trap .unsup i s
  else
    match seedRing s.sq with
    | none => trap .seedLen i s
    | some b => .next (done b)

/-- LFIB4's advance: the cursor moves first, and the four reads are of the buffer before the write (rule
R191). -/
def stepLfib4 (l : Lfib4) : Lfib4 :=
  let c := l.cursor + 1
  let new := l.buf.get c + l.buf.get (c + 58) + l.buf.get (c + 119) + l.buf.get (c + 178)
  ⟨l.buf.set c new, c⟩

/-- `buf[cursor]`, the output of LFIB4 (rule R192). -/
def outLfib4 (l : Lfib4) : Word :=
  l.buf.get l.cursor

/-- SEED LFIB4 (rule R190). -/
def execSeedLfib4 (x : Bool) (s : State) : Result :=
  seedRingUnit x (.seedLfib4 x) s fun b => { markSeeded .lfib4 s with lfib4 := ⟨b, 0⟩ }

/-- ADV LFIB4 (rule R191). -/
def execAdvLfib4 (s : State) : Result :=
  let l := stepLfib4 s.lfib4
  needSeeded .lfib4 .advLfib4 s { s with lfib4 := l, res := outLfib4 l }

/-- CUR LFIB4 (rule R192). -/
def execCurLfib4 (s : State) : Result :=
  needSeeded .lfib4 .curLfib4 s { s with res := outLfib4 s.lfib4 }

/-- GETST LFIB4 (rule R193). -/
def execGetstLfib4 (s : State) : Result :=
  needSeeded .lfib4 .getstLfib4 s (putXb (rotated s.lfib4.buf s.lfib4.cursor) s)

/-- SETST LFIB4 (rule R194). -/
def execSetstLfib4 (s : State) : Result :=
  withStateVals Config.ring .setstLfib4 s fun v => { markSeeded .lfib4 s with lfib4 := ⟨v, 0⟩ }

/-- SAN LFIB4: no forbidden state, no change (rule R195). -/
def execSanLfib4 (s : State) : Result :=
  needSeeded .lfib4 .sanLfib4 s s

/-- JUMP LFIB4: `Fault(E_UNSUP)`, always (rule R196). -/
def execJumpLfib4 (s : State) : Result :=
  trap .unsup .jumpLfib4 s

/-- MIX LFIB4: `Fault(E_UNSUP)`, always (rule R197). -/
def execMixLfib4 (s : State) : Result :=
  trap .unsup .mixLfib4 s

/-- SWB's advance: the cursor moves first; the borrow is of the comparison after reduction (rule R199). -/
def stepSwb (b : Swb) : Swb :=
  let c := b.cursor + 1
  let x := b.buf.get (c + 34)
  let y := b.buf.get (c + 19) + bitWord b.borrow
  ⟨b.buf.set c (swbDiff x y), c, swbBorrow x y⟩

/-- `buf[cursor]`, the output of SWB (rule R200). -/
def outSwb (b : Swb) : Word :=
  b.buf.get b.cursor

/-- The ring and borrow of a 257-word state tuple (rule R202). -/
def swbOfTuple (v : Table Word (Config.ring + 1)) : Swb :=
  ⟨Table.tab Config.ring fun i => v.toList.getD i 0, 0, (v.get (Fin.last Config.ring)).getLsbD 0⟩

/-- SEED SWB: as LFIB4's, and the borrow 0 (rule R198). -/
def execSeedSwb (x : Bool) (s : State) : Result :=
  seedRingUnit x (.seedSwb x) s fun b => { markSeeded .swb s with swb := ⟨b, 0, false⟩ }

/-- ADV SWB (rule R199). -/
def execAdvSwb (s : State) : Result :=
  let b := stepSwb s.swb
  needSeeded .swb .advSwb s { s with swb := b, res := outSwb b }

/-- CUR SWB (rule R200). -/
def execCurSwb (s : State) : Result :=
  needSeeded .swb .curSwb s { s with res := outSwb s.swb }

/-- GETST SWB: the rotated buffer, then the borrow (rule R201). -/
def execGetstSwb (s : State) : Result :=
  needSeeded .swb .getstSwb s
    (putXb (rotated s.swb.buf s.swb.cursor ++ [bitWord s.swb.borrow]) s)

/-- SETST SWB (rule R202). -/
def execSetstSwb (s : State) : Result :=
  withStateVals (Config.ring + 1) .setstSwb s fun v => { markSeeded .swb s with swb := swbOfTuple v }

/-- SAN SWB: no change (rule R203). -/
def execSanSwb (s : State) : Result :=
  needSeeded .swb .sanSwb s s

/-- JUMP SWB: `Fault(E_UNSUP)`, always (rule R204). -/
def execJumpSwb (s : State) : Result :=
  trap .unsup .jumpSwb s

/-- MIX SWB: `Fault(E_UNSUP)`, always (rule R205). -/
def execMixSwb (s : State) : Result :=
  trap .unsup .mixSwb s

end Sys2Proof.Machine
end

