-- ==== Sys2Proof/Machine/Lfsr.lean ====
section
/-! DEFINITION. The combined Tausworthe units LFSR113 and LFSR88 (`42_lfsr_generators.md`): the lane, its
matrix and jump, and the eight commands of each unit. -/

namespace Sys2Proof.Machine

/-- LFSR113 lane z1 (rules R5, R132). -/
def lane113z1 : Lane := params.lfsr113Lane 0

/-- LFSR113 lane z2 (rules R5, R132). -/
def lane113z2 : Lane := params.lfsr113Lane 1

/-- LFSR113 lane z3 (rules R5, R132). -/
def lane113z3 : Lane := params.lfsr113Lane 2

/-- LFSR113 lane z4 (rules R5, R132). -/
def lane113z4 : Lane := params.lfsr113Lane 3

/-- LFSR88 lane z1 (rules R5, R133). -/
def lane88z1 : Lane := params.lfsr88Lane 0

/-- LFSR88 lane z2 (rules R5, R133). -/
def lane88z2 : Lane := params.lfsr88Lane 1

/-- LFSR88 lane z3 (rules R5, R133). -/
def lane88z3 : Lane := params.lfsr88Lane 2

/-- `LaneStep(P, z)` (rule R131). -/
def laneStep (p : Lane) (z : Word) : Word :=
  let b := (((z &&& p.maskA) <<< p.sA) ^^^ z) >>> p.sB
  ((z &&& p.maskC) <<< p.sD) ^^^ b

/-- `LaneSan(P, z)` (rule R134). -/
def laneSan (p : Lane) (z : Word) : Word :=
  if z.toNat < 2 ^ p.s then z ^^^ 0xFFFFFFFF else z

/-- `Spread(v)`, a left shift by `SPREAD_SHIFT` (rules R5, R135). -/
def spread (v : Word) : Word :=
  v ^^^ (v <<< params.spreadShift)

/-- `LaneMat(P) = D·C + B·A` (rule R136). -/
def laneMat (p : Lane) : Mat :=
  let a := matAdd (unity 32) (shiftMat 32 p.sA)
  let b := shiftMat 32 (-(p.sB : Int))
  let c := maskMat 32 p.s 32
  let d := shiftMat 32 p.sD
  matAdd (matMul d c) (matMul b a)

/-- The lane's cycle length `2^(32-s) - 1` (rules R24, R132, R133). -/
def laneCycle (p : Lane) : Nat :=
  2 ^ (32 - p.s) - 1

/-- `LaneJump(P, z, n)` (rule R137). -/
def laneJump (p : Lane) (z : Word) (n : Int) : Word :=
  matVec (matPow (laneMat p) (n % laneCycle p).toNat) z

/-- A seed field made a lane: spread, then sanitized (rules R140, R148). -/
def seedLane (p : Lane) (v : Word) : Word :=
  laneSan p (spread v)

/-- A limb mixed into a lane: XORed in without spreading, sanitized, advanced once (rules R147, R155). -/
def mixLane (p : Lane) (z w : Word) : Word :=
  laneStep p (laneSan p (z ^^^ w))

/-- The four lanes of LFSR113, each under its own constants. -/
def map113 (f : Lane → Word → Word) (z : Lfsr113) : Lfsr113 :=
  ⟨f lane113z1 z.z1, f lane113z2 z.z2, f lane113z3 z.z3, f lane113z4 z.z4⟩

/-- `Out_LFSR113` (rule R139). -/
def out113 (z : Lfsr113) : Word :=
  z.z1 ^^^ z.z2 ^^^ z.z3 ^^^ z.z4

/-- `Mix1_LFSR113(z, w)` (rule R147). -/
def mix1Lfsr113 (z : Lfsr113) (w : Word) : Lfsr113 :=
  match mixSel 4 (out113 z) with
  | 0 => { z with z1 := mixLane lane113z1 z.z1 w }
  | 1 => { z with z2 := mixLane lane113z2 z.z2 w }
  | 2 => { z with z3 := mixLane lane113z3 z.z3 w }
  | _ => { z with z4 := mixLane lane113z4 z.z4 w }

/-- SEED LFSR113 (rule R140; defaults of rule R166). -/
def execSeedLfsr113 (x : Bool) (s : State) : Result :=
  let v := seedVal .lfsr113 s
  let z := map113 seedLane ⟨v 0, v 1, v 2, v 3⟩
  .next { markSeeded .lfsr113 s with lfsr113 := seedWith mix1Lfsr113 x 4 s.sq z }

/-- ADV LFSR113 (rule R141). -/
def execAdvLfsr113 (s : State) : Result :=
  let z := map113 laneStep s.lfsr113
  needSeeded .lfsr113 .advLfsr113 s { s with lfsr113 := z, res := out113 z }

/-- CUR LFSR113 (rule R142). -/
def execCurLfsr113 (s : State) : Result :=
  needSeeded .lfsr113 .curLfsr113 s { s with res := out113 s.lfsr113 }

/-- GETST LFSR113 (rule R143). -/
def execGetstLfsr113 (s : State) : Result :=
  let z := s.lfsr113
  needSeeded .lfsr113 .getstLfsr113 s (putXb [z.z1, z.z2, z.z3, z.z4] s)

/-- SETST LFSR113, without spreading (rule R144). -/
def execSetstLfsr113 (s : State) : Result :=
  withStateVals 4 .setstLfsr113 s fun v =>
    { markSeeded .lfsr113 s with lfsr113 := map113 laneSan ⟨v.get 0, v.get 1, v.get 2, v.get 3⟩ }

/-- SAN LFSR113 (rule R145). -/
def execSanLfsr113 (s : State) : Result :=
  needSeeded .lfsr113 .sanLfsr113 s { s with lfsr113 := map113 laneSan s.lfsr113 }

/-- JUMP LFSR113, the same n to each lane (rule R146). -/
def execJumpLfsr113 (s : State) : Result :=
  needSeeded .lfsr113 .jumpLfsr113 s
    { s with lfsr113 := map113 (fun p z => laneJump p z (jumpDistance s)) s.lfsr113 }

/-- MIX LFSR113 (rule R147). -/
def execMixLfsr113 (s : State) : Result :=
  needSeeded .lfsr113 .mixLfsr113 s { s with lfsr113 := foldExtras mix1Lfsr113 0 s.sq s.lfsr113, sq := [] }

/-- The three lanes of LFSR88, each under its own constants. -/
def map88 (f : Lane → Word → Word) (z : Lfsr88) : Lfsr88 :=
  ⟨f lane88z1 z.z1, f lane88z2 z.z2, f lane88z3 z.z3⟩

/-- `Out_LFSR88` (rule R139). -/
def out88 (z : Lfsr88) : Word :=
  z.z1 ^^^ z.z2 ^^^ z.z3

/-- `Mix1_LFSR88(z, w)` (rule R155). -/
def mix1Lfsr88 (z : Lfsr88) (w : Word) : Lfsr88 :=
  match mixSel 3 (out88 z) with
  | 0 => { z with z1 := mixLane lane88z1 z.z1 w }
  | 1 => { z with z2 := mixLane lane88z2 z.z2 w }
  | _ => { z with z3 := mixLane lane88z3 z.z3 w }

/-- SEED LFSR88 (rule R148; defaults of rule R166). -/
def execSeedLfsr88 (x : Bool) (s : State) : Result :=
  let v := seedVal .lfsr88 s
  let z := map88 seedLane ⟨v 0, v 1, v 2⟩
  .next { markSeeded .lfsr88 s with lfsr88 := seedWith mix1Lfsr88 x 3 s.sq z }

/-- ADV LFSR88 (rule R149). -/
def execAdvLfsr88 (s : State) : Result :=
  let z := map88 laneStep s.lfsr88
  needSeeded .lfsr88 .advLfsr88 s { s with lfsr88 := z, res := out88 z }

/-- CUR LFSR88 (rule R150). -/
def execCurLfsr88 (s : State) : Result :=
  needSeeded .lfsr88 .curLfsr88 s { s with res := out88 s.lfsr88 }

/-- GETST LFSR88 (rule R151). -/
def execGetstLfsr88 (s : State) : Result :=
  let z := s.lfsr88
  needSeeded .lfsr88 .getstLfsr88 s (putXb [z.z1, z.z2, z.z3] s)

/-- SETST LFSR88 (rule R152). -/
def execSetstLfsr88 (s : State) : Result :=
  withStateVals 3 .setstLfsr88 s fun v =>
    { markSeeded .lfsr88 s with lfsr88 := map88 laneSan ⟨v.get 0, v.get 1, v.get 2⟩ }

/-- SAN LFSR88 (rule R153). -/
def execSanLfsr88 (s : State) : Result :=
  needSeeded .lfsr88 .sanLfsr88 s { s with lfsr88 := map88 laneSan s.lfsr88 }

/-- JUMP LFSR88 (rule R154). -/
def execJumpLfsr88 (s : State) : Result :=
  needSeeded .lfsr88 .jumpLfsr88 s
    { s with lfsr88 := map88 (fun p z => laneJump p z (jumpDistance s)) s.lfsr88 }

/-- MIX LFSR88 (rule R155). -/
def execMixLfsr88 (s : State) : Result :=
  needSeeded .lfsr88 .mixLfsr88 s { s with lfsr88 := foldExtras mix1Lfsr88 0 s.sq s.lfsr88, sq := [] }

end Sys2Proof.Machine
end

