-- ==== Sys2Proof/Machine/Matrix.lean ====
section
/-! DEFINITION. The read-only matrices (rule R23) and the ten matrix commands (`40_gf2_matrix.md` rules R74
to R84). -/

namespace Sys2Proof.Machine

/-- `ROM[k]`, the one-step transforms of the GF(2)-linear lanes (rules R23, R60). -/
def rom (k : RomIndex) : Mat :=
  match k with
  | 0 => shr3Mat
  | 1 => laneMat lane113z1
  | 2 => laneMat lane113z2
  | 3 => laneMat lane113z3
  | 4 => laneMat lane113z4
  | 5 => laneMat lane88z1
  | 6 => laneMat lane88z2
  | 7 => laneMat lane88z3

/-- A constructor command: E_RANGE unless the width operand is 1..32 (rules R74, R75 to R77). -/
def buildMat (md : MReg) (i : Instr) (m : Mat) (s : State) : Result :=
  if legalWidth (widthOperand s) then .next (setMat md m s) else trap .range i s

/-- A command of two matrix sources: E_EMPTY, then E_WIDTH, then the destination is written once (rules
R74, R78, R80). -/
def combineMats (md ms1 ms2 : MReg) (i : Instr) (f : Mat → Mat → Mat) (s : State) : Result :=
  let p := s.mat ms1
  let q := s.mat ms2
  if p.n = 0 ∨ q.n = 0 then trap .empty i s
  else if p.n ≠ q.n then trap .width i s
  else .next (setMat md (f p q) s)

/-- A word has a bit set at or above the width `n` (rules R74, R79, R84). -/
def tooWide (n : Nat) (v : Word) : Bool :=
  n < 32 && v >>> n != 0

/-- MUNITY Md (rule R75). -/
def execMunity (md : MReg) (s : State) : Result :=
  buildMat md (.munity md) (unity (widthOperand s)) s

/-- MSHIFT Md (rule R76). -/
def execMshift (md : MReg) (s : State) : Result :=
  buildMat md (.mshift md) (shiftMat (widthOperand s) (shiftOperand s)) s

/-- MMASK Md: start = ARG1, end = ARG2 (rule R77). -/
def execMmask (md : MReg) (s : State) : Result :=
  buildMat md (.mmask md) (maskMat (widthOperand s) s.arg1.toNat s.arg2.toNat) s

/-- MADD Md, Ms1, Ms2 (rule R78). -/
def execMadd (md ms1 ms2 : MReg) (s : State) : Result :=
  combineMats md ms1 ms2 (.madd md ms1 ms2) matAdd s

/-- MVMUL Ms1: the vector is ARG0 (rule R79). -/
def execMvmul (ms1 : MReg) (s : State) : Result :=
  let p := s.mat ms1
  if p.n = 0 then trap .empty (.mvmul ms1) s
  else if tooWide p.n s.arg0 then trap .width (.mvmul ms1) s
  else .next { s with res := matVec p s.arg0 }

/-- MMUL Md, Ms1, Ms2: the left factor is Ms1 (rule R80). -/
def execMmul (md ms1 ms2 : MReg) (s : State) : Result :=
  combineMats md ms1 ms2 (.mmul md ms1 ms2) matMul s

/-- MPOW Md, Ms1 (rule R81). -/
def execMpow (md ms1 : MReg) (s : State) : Result :=
  let p := s.mat ms1
  if p.n = 0 then trap .empty (.mpow md ms1) s
  else .next (setMat md (matPow p (powExponent s)) s)

/-- MROM Md, #k (rule R82). -/
def execMrom (md : MReg) (k : RomIndex) (s : State) : Result :=
  .next (setMat md (rom k) s)

/-- MGET Ms1: the columns below the width to XB (rule R83). -/
def execMget (ms1 : MReg) (s : State) : Result :=
  let p := s.mat ms1
  if p.n = 0 then trap .empty (.mget ms1) s
  else .next (putXb (p.col.toList.take p.n) s)

/-- MSETCOL Md: column ARG1 takes the value ARG0 (rule R84). -/
def execMsetcol (md : MReg) (s : State) : Result :=
  let p := s.mat md
  if p.n = 0 then trap .empty (.msetcol md) s
  else if s.arg1.toNat ≥ p.n then trap .range (.msetcol md) s
  else if tooWide p.n s.arg0 then trap .range (.msetcol md) s
  else .next (setMat md { p with col := setColumn p.col s.arg1.toNat s.arg0 } s)

end Sys2Proof.Machine
end

