-- ==== Sys2Proof/Machine/SeedQueue.lean ====
section
/-! DEFINITION. The commands that fill and empty the seed queue (`43_seed_mix.md` rules R158 to R162). -/

namespace Sys2Proof.Machine

/-- SQCLR: `SQ <- []` (rule R158). -/
def execSqclr (s : State) : Result :=
  .next { s with sq := [] }

/-- SQPUSH: appends `Limb(ARG0)` (rule R159). -/
def execSqpush (s : State) : Result :=
  pushEntries [.limb s.arg0] .sqpush s

/-- SQPUSHA: appends `Absent` (rule R160). -/
def execSqpusha (s : State) : Result :=
  pushEntries [.absent] .sqpusha s

/-- SQPUSHW: appends the limbs of `s64(ARG1, ARG0)`, all of them or none (rule R161). -/
def execSqpushw (s : State) : Result :=
  pushEntries ((limbs (wideSeed s)).map .limb) .sqpushw s

/-- SQPUSHX: appends the valid words of the exchange buffer as limbs (rule R162). -/
def execSqpushx (s : State) : Result :=
  pushEntries ((xbWords s).map .limb) .sqpushx s

end Sys2Proof.Machine
end

