-- ==== Sys2Proof/Machine/System.lean ====
section
/-! DEFINITION. The system commands NOP, CLRF and RST (`46_system_commands.md`). -/

namespace Sys2Proof.Machine

/-- NOP: no state changes (rule R206). -/
def execNop (s : State) : Result :=
  .next s

/-- CLRF: the fault record is cleared (rule R207). -/
def execClrf (s : State) : Result :=
  .next (clearFault s)

/-- RST: every piece of the engine's state takes its reset value (rule R208). -/
def execRst (s : State) : Result :=
  .next (resetEngine s)

end Sys2Proof.Machine
end

