-- ==== Sys2Proof/Machine/Dispatch.lean ====
section
/-! DEFINITION. The meaning of each command, one arm per constructor of `Instr` (rules R57, R59, R63). -/

namespace Sys2Proof.Machine

def exec (i : Instr) (s : State) : Host.Outcome State Fault Refusal :=
  match i with
  | .nop => Sys2Proof.Machine.execNop s
  | .clrf => Sys2Proof.Machine.execClrf s
  | .rst => Sys2Proof.Machine.execRst s
  | .sqclr => Sys2Proof.Machine.execSqclr s
  | .sqpush => Sys2Proof.Machine.execSqpush s
  | .sqpusha => Sys2Proof.Machine.execSqpusha s
  | .sqpushw => Sys2Proof.Machine.execSqpushw s
  | .sqpushx => Sys2Proof.Machine.execSqpushx s
  | .munity md => Sys2Proof.Machine.execMunity md s
  | .mshift md => Sys2Proof.Machine.execMshift md s
  | .mmask md => Sys2Proof.Machine.execMmask md s
  | .madd md ms1 ms2 => Sys2Proof.Machine.execMadd md ms1 ms2 s
  | .mvmul ms1 => Sys2Proof.Machine.execMvmul ms1 s
  | .mmul md ms1 ms2 => Sys2Proof.Machine.execMmul md ms1 ms2 s
  | .mpow md ms1 => Sys2Proof.Machine.execMpow md ms1 s
  | .mrom md k => Sys2Proof.Machine.execMrom md k s
  | .mget ms1 => Sys2Proof.Machine.execMget ms1 s
  | .msetcol md => Sys2Proof.Machine.execMsetcol md s
  | .seedCong x => Sys2Proof.Machine.execSeedCong x s
  | .seedShr3 x => Sys2Proof.Machine.execSeedShr3 x s
  | .seedMwc x => Sys2Proof.Machine.execSeedMwc x s
  | .seedMwc64 x => Sys2Proof.Machine.execSeedMwc64 x s
  | .seedLfsr113 x => Sys2Proof.Machine.execSeedLfsr113 x s
  | .seedLfsr88 x => Sys2Proof.Machine.execSeedLfsr88 x s
  | .seedKiss x => Sys2Proof.Machine.execSeedKiss x s
  | .seedKiss2 x => Sys2Proof.Machine.execSeedKiss2 x s
  | .seedLfib4 x => Sys2Proof.Machine.execSeedLfib4 x s
  | .seedSwb x => Sys2Proof.Machine.execSeedSwb x s
  | .advCong => Sys2Proof.Machine.execAdvCong s
  | .advShr3 => Sys2Proof.Machine.execAdvShr3 s
  | .advMwc => Sys2Proof.Machine.execAdvMwc s
  | .advMwc64 => Sys2Proof.Machine.execAdvMwc64 s
  | .advLfsr113 => Sys2Proof.Machine.execAdvLfsr113 s
  | .advLfsr88 => Sys2Proof.Machine.execAdvLfsr88 s
  | .advKiss => Sys2Proof.Machine.execAdvKiss s
  | .advKiss2 => Sys2Proof.Machine.execAdvKiss2 s
  | .advLfib4 => Sys2Proof.Machine.execAdvLfib4 s
  | .advSwb => Sys2Proof.Machine.execAdvSwb s
  | .curCong => Sys2Proof.Machine.execCurCong s
  | .curShr3 => Sys2Proof.Machine.execCurShr3 s
  | .curMwc => Sys2Proof.Machine.execCurMwc s
  | .curMwc64 => Sys2Proof.Machine.execCurMwc64 s
  | .curLfsr113 => Sys2Proof.Machine.execCurLfsr113 s
  | .curLfsr88 => Sys2Proof.Machine.execCurLfsr88 s
  | .curKiss => Sys2Proof.Machine.execCurKiss s
  | .curKiss2 => Sys2Proof.Machine.execCurKiss2 s
  | .curLfib4 => Sys2Proof.Machine.execCurLfib4 s
  | .curSwb => Sys2Proof.Machine.execCurSwb s
  | .getstCong => Sys2Proof.Machine.execGetstCong s
  | .getstShr3 => Sys2Proof.Machine.execGetstShr3 s
  | .getstMwc => Sys2Proof.Machine.execGetstMwc s
  | .getstMwc64 => Sys2Proof.Machine.execGetstMwc64 s
  | .getstLfsr113 => Sys2Proof.Machine.execGetstLfsr113 s
  | .getstLfsr88 => Sys2Proof.Machine.execGetstLfsr88 s
  | .getstKiss => Sys2Proof.Machine.execGetstKiss s
  | .getstKiss2 => Sys2Proof.Machine.execGetstKiss2 s
  | .getstLfib4 => Sys2Proof.Machine.execGetstLfib4 s
  | .getstSwb => Sys2Proof.Machine.execGetstSwb s
  | .setstCong => Sys2Proof.Machine.execSetstCong s
  | .setstShr3 => Sys2Proof.Machine.execSetstShr3 s
  | .setstMwc => Sys2Proof.Machine.execSetstMwc s
  | .setstMwc64 => Sys2Proof.Machine.execSetstMwc64 s
  | .setstLfsr113 => Sys2Proof.Machine.execSetstLfsr113 s
  | .setstLfsr88 => Sys2Proof.Machine.execSetstLfsr88 s
  | .setstKiss => Sys2Proof.Machine.execSetstKiss s
  | .setstKiss2 => Sys2Proof.Machine.execSetstKiss2 s
  | .setstLfib4 => Sys2Proof.Machine.execSetstLfib4 s
  | .setstSwb => Sys2Proof.Machine.execSetstSwb s
  | .sanCong => Sys2Proof.Machine.execSanCong s
  | .sanShr3 => Sys2Proof.Machine.execSanShr3 s
  | .sanMwc => Sys2Proof.Machine.execSanMwc s
  | .sanMwc64 => Sys2Proof.Machine.execSanMwc64 s
  | .sanLfsr113 => Sys2Proof.Machine.execSanLfsr113 s
  | .sanLfsr88 => Sys2Proof.Machine.execSanLfsr88 s
  | .sanKiss => Sys2Proof.Machine.execSanKiss s
  | .sanKiss2 => Sys2Proof.Machine.execSanKiss2 s
  | .sanLfib4 => Sys2Proof.Machine.execSanLfib4 s
  | .sanSwb => Sys2Proof.Machine.execSanSwb s
  | .jumpCong => Sys2Proof.Machine.execJumpCong s
  | .jumpShr3 => Sys2Proof.Machine.execJumpShr3 s
  | .jumpMwc => Sys2Proof.Machine.execJumpMwc s
  | .jumpMwc64 => Sys2Proof.Machine.execJumpMwc64 s
  | .jumpLfsr113 => Sys2Proof.Machine.execJumpLfsr113 s
  | .jumpLfsr88 => Sys2Proof.Machine.execJumpLfsr88 s
  | .jumpKiss => Sys2Proof.Machine.execJumpKiss s
  | .jumpKiss2 => Sys2Proof.Machine.execJumpKiss2 s
  | .jumpLfib4 => Sys2Proof.Machine.execJumpLfib4 s
  | .jumpSwb => Sys2Proof.Machine.execJumpSwb s
  | .mixCong => Sys2Proof.Machine.execMixCong s
  | .mixShr3 => Sys2Proof.Machine.execMixShr3 s
  | .mixMwc => Sys2Proof.Machine.execMixMwc s
  | .mixMwc64 => Sys2Proof.Machine.execMixMwc64 s
  | .mixLfsr113 => Sys2Proof.Machine.execMixLfsr113 s
  | .mixLfsr88 => Sys2Proof.Machine.execMixLfsr88 s
  | .mixKiss => Sys2Proof.Machine.execMixKiss s
  | .mixKiss2 => Sys2Proof.Machine.execMixKiss2 s
  | .mixLfib4 => Sys2Proof.Machine.execMixLfib4 s
  | .mixSwb => Sys2Proof.Machine.execMixSwb s

end Sys2Proof.Machine
end

