-- ==== Sys2Proof/Machine/Port.lean ====
section
/-! DEFINITION. The host port: the register map, `HostRead`, `HostWrite`, and the write to CMD that starts a
command (`20_memory.md`, `30_encoding.md` rule R63, `60_exceptions.md` rule R215). -/

namespace Sys2Proof.Machine

/-- What a host read of `addr` finds there; none at an unmapped address (rules R42, R44). -/
def portRead (s : State) (addr : BitVec 10) : Option Word :=
  match addr.toNat with
  | 0x000 => some 0
  | 0x001 => some (statusWord s)
  | 0x002 => some (fcmdWord s)
  | 0x003 => some (modeWord s)
  | 0x004 => some s.arg0
  | 0x005 => some s.arg1
  | 0x006 => some s.arg2
  | 0x008 => some s.res
  | 0x00A => some (sqcntWord s)
  | 0x00B => some (xlenWord s)
  | 0x00C => some (seededWord s)
  | a => if h : 0x100 ≤ a ∧ a - 0x100 < Config.xbLen then some (s.xb.get ⟨a - 0x100, h.2⟩) else none

/-- `HostRead(addr)`: the host receives the word; an unmapped address gives 0 and a bus fault, and no other
read changes the engine (rules R42, R53). -/
def hostRead (addr : BitVec 10) (s : State) : Result :=
  match portRead s addr with
  | some v => .next { s with hostData := v }
  | none => .next { busFault false addr s with hostData := 0 }

/-- A command word is dropped while a fault is recorded, unless it is exactly CLRF or RST (rules R63,
R215). -/
def dropped (w : Word) (s : State) : Bool :=
  s.fault.isSome && w != 0x00000001 && w != 0x00000002

/-- `HostWrite(CMD, w)`: dropped, illegal, or exactly one command executed to completion (rule R63). -/
def writeCmd (w : Word) (s : State) : Result :=
  if dropped w s then .next s
  else
    match decode w with
    | .error _ => .next (raiseFault .illegal w s)
    | .ok i => exec i s

/-- `HostWrite(addr, v)` (rules R43, R53). -/
def hostWrite (addr : BitVec 10) (v : Word) (s : State) : Result :=
  match addr.toNat with
  | 0x000 => writeCmd v s
  | 0x003 => .next { s with mwcComb := v.getLsbD 0 }
  | 0x004 => .next { s with arg0 := v }
  | 0x005 => .next { s with arg1 := v }
  | 0x006 => .next { s with arg2 := v }
  | _ => .next (busFault true addr s)

/-- One host event, performed completely (rules R49, R220). -/
def hostEvent (e : HostEvent) (s : State) : Result :=
  match e with
  | .reset => .next (resetEngine s)
  | .read addr => hostRead addr s
  | .write addr v => hostWrite addr v s

/-- The next event of the host is taken and performed; with none pending the engine waits and nothing
changes (rules R11, R49). -/
def takeEvent (s : State) : Result :=
  match s.inbox with
  | [] => .next s
  | e :: rest => hostEvent e { s with inbox := rest }

/-- The host's next event becomes a write of the word `w` to CMD, before those already pending. -/
def pushCmdWrite (w : Word) (s : State) : State :=
  { s with inbox := .write 0 w :: s.inbox }

end Sys2Proof.Machine
end

