-- ==== Sys2Proof/Machine/Step.lean ====
section
/-! DEFINITION. One step of the machine: one host event performed to completion (rules R11, R49). -/

namespace Sys2Proof.Machine

/-- One step. The engine fetches nothing (rule R11): what it does next is the next event of the host, and
with none pending it waits. -/
def step (s : State) : Host.Outcome State Fault Refusal :=
  takeEvent s

/-- The state whose very next step is the host's write of the command word `w` (an instruction of `nbits`
bits) to CMD. Nothing else changes; in a state with a fault recorded that write is dropped like any other
(rule R215, log entry 1). -/
def State.withFetchWord (s : State) (nbits w : Nat) : State :=
  pushCmdWrite (BitVec.ofNat 32 (w % 2 ^ nbits)) s

end Sys2Proof.Machine
end

