-- ==== Sys2Proof/Safety.lean ====
section
/-! DEFINITION. What counts as a sound state of the engine (rules R14, R22, R25 to R37), which commands belong
to a unit, what of a state can be observed (rules R27, R40, R231), and the rules' own wording of a few
functions: the terms the statements use. -/

namespace Sys2Proof.Machine

/-- The invariant of a matrix register (rule R22), and of an unwritten one, whose columns are all 0 (rule
R21): no row or column at or beyond the width is set. -/
abbrev matOk (m : Mat) : Prop :=
  m.n ≤ Config.nMax ∧
    ∀ i : Fin Config.nMax,
      (i.val < m.n → (m.col.get i).toNat < 2 ^ m.n) ∧ (m.n ≤ i.val → m.col.get i = 0)

/-- XLEN is at most 257 and every word of XB from XLEN up is 0 (rule R26). -/
abbrev xbOk (s : State) : Prop :=
  s.xlen ≤ Config.xbLen ∧ ∀ i : Fin Config.xbLen, s.xlen ≤ i.val → s.xb.get i = 0

/-- The fault record: FCMD is a bad access for E_BUS, an illegal word for E_ILLEGAL, and a command's word
for any other cause (rules R14, R211). -/
def recordOk (f : Option FaultRecord) : Prop :=
  match f with
  | none => True
  | some r =>
    match r.cause with
    | .bus => ∃ isWrite addr, r.fcmd = busRecord isWrite addr
    | .illegal => (CmdFields.ofWord r.fcmd).legal = false
    | _ => (CmdFields.ofWord r.fcmd).legal = true

/-- Both MWC lanes are in `1 .. m - 1` (rule R30). -/
abbrev mwcOk (m : Mwc) : Prop :=
  (1 ≤ m.upper.toNat ∧ m.upper.toNat < mwcuMod) ∧ (1 ≤ m.lower.toNat ∧ m.lower.toNat < mwclMod)

/-- The MWC64 lane is in `1 .. m - 1` (rule R31). -/
abbrev mwc64Ok (v : DWord) : Prop :=
  1 ≤ v.toNat ∧ v.toNat < mwc64Mod

/-- The significant bits of a Tausworthe lane are not all zero (rules R32, R33). -/
abbrev laneOk (p : Lane) (z : Word) : Prop :=
  2 ^ p.s ≤ z.toNat

/-- The invariant of each unit's fields (rules R28 to R37). -/
def unitOk (s : State) : UnitId → Prop
  | .cong => True
  | .shr3 => s.shr3 ≠ 0
  | .mwc => mwcOk s.mwc
  | .mwc64 => mwc64Ok s.mwc64
  | .lfsr113 =>
    laneOk lane113z1 s.lfsr113.z1 ∧ laneOk lane113z2 s.lfsr113.z2 ∧
      laneOk lane113z3 s.lfsr113.z3 ∧ laneOk lane113z4 s.lfsr113.z4
  | .lfsr88 => laneOk lane88z1 s.lfsr88.z1 ∧ laneOk lane88z2 s.lfsr88.z2 ∧ laneOk lane88z3 s.lfsr88.z3
  | .kiss => mwcOk s.kiss.mwc ∧ s.kiss.shr3 ≠ 0
  | .kiss2 => mwc64Ok s.kiss2.mwc64 ∧ s.kiss2.shr3 ≠ 0
  | .lfib4 => True
  | .swb => True

/-- The state invariant: every matrix register, the queue's capacity (rule R25), the exchange buffer, the
fault record, and every seeded unit (rule R27). -/
structure State.Sound (s : State) : Prop where
  mats : ∀ r : MReg, matOk (s.mat r)
  queue : s.sq.length ≤ Config.sqDepth
  exchange : xbOk s
  record : recordOk s.fault
  units : ∀ u : UnitId, s.isSeeded u = true → unitOk s u

/-- The generator commands of a unit (rule R59). -/
def unitCommands (u : UnitId) : List Instr :=
  [seedOf false u, seedOf true u, advOf u, curOf u, getstOf u, setstOf u, sanOf u, jumpOf u, mixOf u]

/-- The two states agree on the fields of unit `u`. -/
def sameUnit (s t : State) : UnitId → Prop
  | .cong => s.cong = t.cong
  | .shr3 => s.shr3 = t.shr3
  | .mwc => s.mwc = t.mwc
  | .mwc64 => s.mwc64 = t.mwc64
  | .lfsr113 => s.lfsr113 = t.lfsr113
  | .lfsr88 => s.lfsr88 = t.lfsr88
  | .kiss => s.kiss = t.kiss
  | .kiss2 => s.kiss2 = t.kiss2
  | .lfib4 => s.lfib4 = t.lfib4
  | .swb => s.swb = t.swb

/-- The generator fields of `s` beside everything else of `t`. -/
def withUnitsOf (s t : State) : State :=
  { t with
    cong := s.cong, shr3 := s.shr3, mwc := s.mwc, mwc64 := s.mwc64, lfsr113 := s.lfsr113,
    lfsr88 := s.lfsr88, kiss := s.kiss, kiss2 := s.kiss2, lfib4 := s.lfib4, swb := s.swb }

/-- The two states differ at most in generator fields of units that are not seeded (rules R27, R40). -/
def sameSeen (s t : State) : Prop :=
  withUnitsOf s t = s ∧ ∀ u : UnitId, s.isSeeded u = true → sameUnit s t u

/-- The word of a generator command: `OP | (u << 8)` (rule R59). -/
def genWord (op : Nat) (u : UnitId) : Word :=
  BitVec.ofNat 32 (op + 256 * (unitIndex u).val)

/-- The value an entry gives a seed field whose default is `d` (rule R163). -/
def entryOr (d : Word) : SqEntry → Word
  | .limb w => w
  | .absent => d

/-- `SeedVals(k, D)` as rule R163 writes it, a loop over the defaults that remembers the last entry seen. -/
def seedValsLoop : List SqEntry → SqEntry → List Word → List Word
  | _, _, [] => []
  | [], last, d :: ds => entryOr d last :: seedValsLoop [] last ds
  | e :: q, _, d :: ds => entryOr d e :: seedValsLoop q e ds

/-- The XOR, over all i below the width with bit i of `v` set, of column i (rule R70). -/
def columnSum (p : Mat) (v : Word) : Word :=
  (List.range p.n).foldl (fun acc i => if v.getLsbD i then acc ^^^ p.column i else acc) 0

/-- The step of the lane that `ROM[k]` is the matrix of (rule R23). -/
def romStep (k : RomIndex) : Word → Word :=
  match k with
  | 0 => stepShr3
  | 1 => laneStep lane113z1
  | 2 => laneStep lane113z2
  | 3 => laneStep lane113z3
  | 4 => laneStep lane113z4
  | 5 => laneStep lane88z1
  | 6 => laneStep lane88z2
  | 7 => laneStep lane88z3

/-- `buf[(cursor + i) mod 256]` for i = 0..255 (rule R46). -/
def ringWords (buf : Table Word Config.ring) (cursor : Fin Config.ring) : List Word :=
  (List.range 256).map fun i => buf.get (Fin.ofNat 256 (cursor.val + i))

/-- The state tuple of a unit (rules R28 to R37). -/
def stateTuple (s : State) : UnitId → List Word
  | .cong => [s.cong]
  | .shr3 => [s.shr3]
  | .mwc => [s.mwc.upper, s.mwc.lower]
  | .mwc64 => [s.mwc64.extractLsb' 32 32, s.mwc64.extractLsb' 0 32]
  | .lfsr113 => [s.lfsr113.z1, s.lfsr113.z2, s.lfsr113.z3, s.lfsr113.z4]
  | .lfsr88 => [s.lfsr88.z1, s.lfsr88.z2, s.lfsr88.z3]
  | .kiss => [s.kiss.mwc.upper, s.kiss.mwc.lower, s.kiss.cong, s.kiss.shr3]
  | .kiss2 => [s.kiss2.mwc64.extractLsb' 32 32, s.kiss2.mwc64.extractLsb' 0 32, s.kiss2.cong, s.kiss2.shr3]
  | .lfib4 => ringWords s.lfib4.buf s.lfib4.cursor
  | .swb => ringWords s.swb.buf s.swb.cursor ++ [if s.swb.borrow then 1 else 0]

/-- The length of a unit's state tuple (rule R27). -/
def tupleLength : UnitId → Nat
  | .cong => 1
  | .shr3 => 1
  | .mwc => 2
  | .mwc64 => 2
  | .lfsr113 => 4
  | .lfsr88 => 3
  | .kiss => 4
  | .kiss2 => 4
  | .lfib4 => 256
  | .swb => 257

end Sys2Proof.Machine
end

