-- ==== Sys2Proof/Certificates/Slice0/Obligations.lean ====
section
/-! DEFINITION. The statements for the provers. Each formalises rules of spec/ about what a command, the host
port or the whole engine does; a docstring names the rules. A command's statement gives its whole next state,
so that everything it does not name is unchanged. -/

open Sys2Proof Sys2Proof.Machine

/-! ### Command words -/

/-- Decoding the word of a command gives the command back, with every operand (rules R54 to R60). -/
def Obligations.DecodeOfEncode : Prop :=
  ∀ i : Instr, decode (encode i) = .ok i

/-- A word that decodes is the word of the command it decodes to, so no bit of it is ignored (rules R55,
R61). -/
def Obligations.EncodeOfDecode : Prop :=
  ∀ (w : Word) (i : Instr), decode w = .ok i → encode i = w

/-- Rule R61: the legal words, read off the fields by the table of rule R57, are those that select an
operation, and any other word written to CMD raises E_ILLEGAL. -/
def Obligations.IllegalWordsFault : Prop :=
  ∀ w : Word,
    ((CmdFields.ofWord w).legal = true → ∃ i, decode w = .ok i) ∧
    ((CmdFields.ofWord w).legal = false →
      (∀ i, decode w ≠ .ok i) ∧
      ∀ s : State, s.fault = none → hostWrite 0 w s = .next { s with fault := some ⟨.illegal, w⟩ })

/-- Rule R57's closing sentence: a word is legal exactly when it matches one row of the opcode table, and
then it matches no other. -/
def Obligations.LegalMatchesOneRow : Prop :=
  (∀ w : Word, (CmdFields.ofWord w).legal = true ↔ ∃ r ∈ tableRows, w &&& r.mask = r.bits) ∧
  tableRows.Pairwise fun r r' => ∀ w : Word, w &&& r.mask = r.bits → w &&& r'.mask ≠ r'.bits

/-- Words written out from the spec's encodings and examples decode to the commands they stand for (rules
R64, R75 to R84, R172). -/
def Obligations.DecodeSamples : Prop :=
  decode 0x00010215 = .ok (.mmul 2 0 1) ∧ decode 0x00003014 = .ok (.mvmul 3) ∧
  decode 0x00000118 = .ok (.mrom 1 0) ∧ decode 0x00005318 = .ok (.mrom 3 5) ∧
  decode 0x00100620 = .ok (.seedKiss true) ∧ decode 0x00000921 = .ok .advSwb ∧
  decode 0x00000000 = .ok .nop ∧ decode 0x0000000B = .ok .sqpushw ∧ decode 0x00000116 = .ok (.mpow 1 0)

/-! ### The host port and the step -/

/-- A step performs the host's next event completely: a hardware reset (with the effect of RST), a read, a
write. A write to CMD of a word that decodes to `i` runs exactly `i`, unless a fault is recorded and the word
is not CLRF or RST; with no event pending the engine waits (log entry 17). `withFetchWord` places such a write
(rules R11, R49, R63, R215, R220). -/
def Obligations.StepRunsDecoded : Prop :=
  ∀ (s : State) (rest : List HostEvent),
    (s.inbox = [] → step s = .next s) ∧
    (s.inbox = .reset :: rest → step s = exec .rst { s with inbox := rest }) ∧
    (∀ a, s.inbox = .read a :: rest → step s = hostRead a { s with inbox := rest }) ∧
    (∀ a v, s.inbox = .write a v :: rest → step s = hostWrite a v { s with inbox := rest }) ∧
    (∀ (w : Word) (i : Instr), s.inbox = .write 0 w :: rest → decode w = .ok i →
      (s.fault = none ∨ w = 1 ∨ w = 2 → step s = exec i { s with inbox := rest }) ∧
      (s.fault ≠ none → w ≠ 1 → w ≠ 2 → step s = .next { s with inbox := rest })) ∧
    (∀ (w : Nat) (i : Instr), w < 2 ^ 32 → decode (BitVec.ofNat 32 w) = .ok i → s.fault = none →
      step (s.withFetchWord 32 w) = exec i s)

/-- Rule R42 with the map of rule R44: what a read of each address returns, that it changes nothing, and that
an unmapped address returns 0 and records a bus fault. -/
def Obligations.HostReadMap : Prop :=
  ∀ s : State,
    (∀ (a : BitVec 10) (v : Word),
      (a = 0x000 ∧ v = 0) ∨ (a = 0x001 ∧ v = statusWord s) ∨ (a = 0x002 ∧ v = fcmdWord s) ∨
      (a = 0x003 ∧ v = if s.mwcComb then 1 else 0) ∨ (a = 0x004 ∧ v = s.arg0) ∨ (a = 0x005 ∧ v = s.arg1) ∨
      (a = 0x006 ∧ v = s.arg2) ∨ (a = 0x008 ∧ v = s.res) ∨ (a = 0x00A ∧ v = BitVec.ofNat 32 s.sq.length) ∨
      (a = 0x00B ∧ v = BitVec.ofNat 32 s.xlen) ∨ (a = 0x00C ∧ v = seededWord s) ∨
      (∃ i : Fin 257, a = BitVec.ofNat 10 (0x100 + i.val) ∧ v = s.xb.get i) →
      hostRead a s = .next { s with hostData := v }) ∧
    (∀ a : BitVec 10,
      a = 0x007 ∨ a = 0x009 ∨ (0x00D ≤ a.toNat ∧ a.toNat ≤ 0x0FF) ∨ 0x201 ≤ a.toNat →
      hostRead a s = .next { raiseFault .bus (a.setWidth 32) s with hostData := 0 })

/-- Rules R43 and R53: what a write to each address does; a write to a read-only register or an unmapped
address stores nothing and records a bus fault. -/
def Obligations.HostWriteMap : Prop :=
  ∀ (s : State) (v : Word),
    hostWrite 0x003 v s = .next { s with mwcComb := v.getLsbD 0 } ∧
    hostWrite 0x004 v s = .next { s with arg0 := v } ∧
    hostWrite 0x005 v s = .next { s with arg1 := v } ∧
    hostWrite 0x006 v s = .next { s with arg2 := v } ∧
    (∀ i, decode v = .ok i → s.fault = none → hostWrite 0x000 v s = exec i s) ∧
    (∀ a : BitVec 10, a ≠ 0x000 → a ≠ 0x003 → a ≠ 0x004 → a ≠ 0x005 → a ≠ 0x006 →
      hostWrite a v s = .next (raiseFault .bus (0x80000000 ||| a.setWidth 32) s))

/-- The layout of STATUS and what FCMD reads, without a fault and with one (rules R13, R14, R211). -/
def Obligations.StatusAndFcmd : Prop :=
  ∀ s : State,
    (s.fault = none → statusWord s = 0 ∧ fcmdWord s = 0) ∧
    (∀ (c : Cause) (w : Word), s.fault = some ⟨c, w⟩ →
      fcmdWord s = w ∧ (statusWord s).extractLsb' 0 1 = 1 ∧ (statusWord s).extractLsb' 1 3 = 0 ∧
      (statusWord s).extractLsb' 8 24 = 0 ∧
      (statusWord s).extractLsb' 4 4 =
        match c with
        | .illegal => 1
        | .width => 2
        | .seedLen => 3
        | .unsup => 4
        | .range => 5
        | .empty => 6
        | .unseeded => 7
        | .sqFull => 8
        | .bus => 9)

/-- The views SQCNT, XLEN and SEEDED (rules R18, R19, R20): SQCNT reads the queue's length 0..512, XLEN the
number of valid words 0..257, and bit u of SEEDED is the valid bit of unit u with bits 31:10 zero; all three
are read-only and read 0 after reset. -/
def Obligations.CountAndSeededViews : Prop :=
  (∀ s : State, s.Sound →
    ∃ n x v : Word,
      hostRead 0x00A s = .next { s with hostData := n } ∧ n.toNat = s.sq.length ∧ n.toNat ≤ 512 ∧
      hostRead 0x00B s = .next { s with hostData := x } ∧ x.toNat = s.xlen ∧ x.toNat ≤ 257 ∧
      hostRead 0x00C s = .next { s with hostData := v } ∧
      (∀ u : UnitId, v.getLsbD (unitIndex u).val = s.isSeeded u) ∧ ∀ k, 10 ≤ k → v.getLsbD k = false) ∧
  (∀ (s : State) (v : Word),
    hostWrite 0x00A v s = .next (raiseFault .bus 0x8000000A s) ∧
    hostWrite 0x00B v s = .next (raiseFault .bus 0x8000000B s) ∧
    hostWrite 0x00C v s = .next (raiseFault .bus 0x8000000C s)) ∧
  portRead State.reset 0x00A = some 0 ∧ portRead State.reset 0x00B = some 0 ∧
  portRead State.reset 0x00C = some 0

/-- Rule R215, bullet by bullet: while a fault is recorded a command other than CLRF and RST is dropped,
reads of mapped registers and writes to ARG0..ARG2 and MODE work as always, and a further bus fault changes
nothing in the engine. -/
def Obligations.BlockedWhileFaulted : Prop :=
  ∀ (s : State) (r : FaultRecord), s.fault = some r →
    (∀ w : Word, w ≠ 0x00000001 → w ≠ 0x00000002 → hostWrite 0x000 w s = .next s) ∧
    hostWrite 0x000 0x00000001 s = exec .clrf s ∧ hostWrite 0x000 0x00000002 s = exec .rst s ∧
    (∀ a v, portRead s a = some v → hostRead a s = .next { s with hostData := v }) ∧
    (∀ v, hostWrite 0x004 v s = .next { s with arg0 := v } ∧ hostWrite 0x005 v s = .next { s with arg1 := v } ∧
      hostWrite 0x006 v s = .next { s with arg2 := v } ∧
      hostWrite 0x003 v s = .next { s with mwcComb := v.getLsbD 0 }) ∧
    (∀ a, portRead s a = none → hostRead a s = .next { s with hostData := 0 }) ∧
    (∀ (a : BitVec 10) v, a ≠ 0x000 → a ≠ 0x003 → a ≠ 0x004 → a ≠ 0x005 → a ≠ 0x006 →
      hostWrite a v s = .next s)

/-! ### Reset and the system commands -/

/-- The values rule R40 gives for reset. The generator fields, which the rule leaves unspecified, are no part
of the statement. -/
def Obligations.ResetValues : Prop :=
  statusWord State.reset = 0 ∧ fcmdWord State.reset = 0 ∧ modeWord State.reset = 0 ∧
  State.reset.arg0 = 0 ∧ State.reset.arg1 = 0 ∧ State.reset.arg2 = 0 ∧ State.reset.res = 0 ∧
  (∀ r : MReg, (State.reset.mat r).n = 0 ∧ ∀ j, (State.reset.mat r).col.get j = 0) ∧
  State.reset.sq = [] ∧ State.reset.xlen = 0 ∧ (∀ i, State.reset.xb.get i = 0) ∧
  ∀ u : UnitId, State.reset.isSeeded u = false

/-- NOP, CLRF and RST as commands and as words written to CMD in any state, and that each is the only legal
word with its operation code (rules R206, R207, R208). After RST everything but the generator fields, which
rule R40 leaves unspecified, is as in the state after reset; the inbox and the last read word are the model's
own fields and stay (log entries 1, 2, 16). -/
def Obligations.SystemCommands : Prop :=
  (∀ s : State,
    exec .nop s = .next s ∧ hostWrite 0x000 0x00000000 s = .next s ∧
    exec .clrf s = .next { s with fault := none } ∧
    hostWrite 0x000 0x00000001 s = .next { s with fault := none } ∧
    ∃ t, exec .rst s = .next t ∧ hostWrite 0x000 0x00000002 s = .next t ∧
      t = withUnitsOf t { State.reset with inbox := s.inbox, hostData := s.hostData }) ∧
  ∀ (w : Word) (i : Instr), decode w = .ok i →
    (w.extractLsb' 0 8 = 0 → w = 0) ∧ (w.extractLsb' 0 8 = 1 → w = 1) ∧ (w.extractLsb' 0 8 = 2 → w = 2)

/-! ### Faults -/

/-- Rule R214, for every command: where a command ends with a new fault record, no record stood before, and
nothing but the record has changed, which holds the command's word. The first clause is fault entry itself:
a record that stands is kept. CLRF and RST are the commands that write the record otherwise (rule R13). -/
def Obligations.FaultsArePrecise : Prop :=
  (∀ (c : Cause) (w : Word) (s : State),
    (s.fault = none → raiseFault c w s = { s with fault := some ⟨c, w⟩ }) ∧
    (s.fault ≠ none → raiseFault c w s = s)) ∧
  ∀ (i : Instr) (s t : State), exec i s = .next t → t.fault ≠ s.fault → i ≠ .clrf → i ≠ .rst →
    s.fault = none ∧ ∃ c : Cause, c ≠ .bus ∧ c ≠ .illegal ∧ t = { s with fault := some ⟨c, encode i⟩ }

/-- Every command and every step completes: there is no stuck state, and nothing the host can do makes the
engine stop accepting transactions (rules R209, R232). -/
def Obligations.EveryStepCompletes : Prop :=
  (∀ (i : Instr) (s : State), ∃ t, exec i s = .next t) ∧
  ∀ s : State, ∃ t, step s = .next t ∧ t.inbox = s.inbox.tail

/-- JUMP and MIX on LFIB4 and SWB are E_UNSUP in every state, seeded or not, whatever the queue and ARG hold
(rules R196, R197, R204, R205). -/
def Obligations.RingUnsupported : Prop :=
  ∀ s : State,
    exec .jumpLfib4 s = .next (raiseFault .unsup 0x00000826 s) ∧
    exec .mixLfib4 s = .next (raiseFault .unsup 0x00000827 s) ∧
    exec .jumpSwb s = .next (raiseFault .unsup 0x00000926 s) ∧
    exec .mixSwb s = .next (raiseFault .unsup 0x00000927 s)

/-! ### The seed queue -/

/-- SQCLR, SQPUSH and SQPUSHA: the queue emptied, or one entry appended at the tail where it fits and
E_SQFULL where it does not (rules R158, R159, R160). -/
def Obligations.QueuePush : Prop :=
  ∀ s : State,
    exec .sqclr s = .next { s with sq := [] } ∧
    (s.sq.length + 1 ≤ 512 →
      exec .sqpush s = .next { s with sq := s.sq ++ [.limb s.arg0] } ∧
      exec .sqpusha s = .next { s with sq := s.sq ++ [.absent] }) ∧
    (512 < s.sq.length + 1 →
      exec .sqpush s = .next (raiseFault .sqFull 0x00000009 s) ∧
      exec .sqpusha s = .next (raiseFault .sqFull 0x0000000A s))

/-- SQPUSHW and SQPUSHX append all their limbs or none. SQPUSHW appends ARG0 alone where ARG1 is 0 or all
ones, else ARG0 and then ARG1: that is what `Limbs` of the signed 64-bit value comes to (rules R157, R161).
SQPUSHX appends `XB[0 .. XLEN-1]` (rule R162). -/
def Obligations.WideAndExchangePush : Prop :=
  ∀ s : State,
    (∀ l : List SqEntry,
      l = (if s.arg1 = 0 ∨ s.arg1 = 0xFFFFFFFF then [.limb s.arg0] else [.limb s.arg0, .limb s.arg1]) →
      (s.sq.length + l.length ≤ 512 → exec .sqpushw s = .next { s with sq := s.sq ++ l }) ∧
      (512 < s.sq.length + l.length → exec .sqpushw s = .next (raiseFault .sqFull 0x0000000B s))) ∧
    (s.xlen ≤ 257 →
      (s.sq.length + s.xlen ≤ 512 →
        exec .sqpushx s = .next { s with sq := s.sq ++ (s.xb.toList.take s.xlen).map .limb }) ∧
      (512 < s.sq.length + s.xlen → exec .sqpushx s = .next (raiseFault .sqFull 0x0000000C s)))

/-- The seed field values the commands use are those of rule R163's loop over the queue and the defaults,
which remembers the last entry seen. -/
def Obligations.SeedFieldsAreSeedVals : Prop :=
  ∀ (q : List SqEntry) (ds : List Word),
    seedValsLoop q .absent ds = ds.mapIdx fun j d => seedField q j d

/-- The table of rule R168: the field or constituent the next limb goes to, for 1 to 4 fields. -/
def Obligations.MixSelectorTable : Prop :=
  ∀ c : Word,
    mixSel 1 c = 0 ∧ mixSel 2 c = (c.extractLsb' 31 1).toNat ∧
    mixSel 3 c = (if c.toNat < 0x55555556 then 0 else if c.toNat < 0xAAAAAAAB then 1 else 2) ∧
    mixSel 4 c = (c.extractLsb' 30 2).toNat

/-! ### The matrix unit -/

/-- MUNITY, MSHIFT and MMASK: for a width 1..32 in ARG0 the destination takes the named columns, else E_RANGE
(rules R75, R76, R77 with R66, R67, R68). -/
def Obligations.MatrixConstructors : Prop :=
  ∀ (s : State) (d : MReg),
    (1 ≤ s.arg0.toNat → s.arg0.toNat ≤ 32 →
      (∃ m : Mat, m.n = s.arg0.toNat ∧
        (∀ i : Fin 32, m.col.get i = if i.val < m.n then (1 : Word) <<< i.val else 0) ∧
        exec (.munity d) s = .next { s with mats := s.mats.set d m }) ∧
      (∃ m : Mat, m.n = s.arg0.toNat ∧
        (∀ i : Fin 32, m.col.get i =
          if i.val < m.n ∧ 0 ≤ (i.val : Int) + s.arg1.toInt ∧ (i.val : Int) + s.arg1.toInt < m.n
          then (1 : Word) <<< ((i.val : Int) + s.arg1.toInt).toNat else 0) ∧
        exec (.mshift d) s = .next { s with mats := s.mats.set d m }) ∧
      (∃ m : Mat, m.n = s.arg0.toNat ∧
        (∀ i : Fin 32, m.col.get i =
          if i.val < m.n ∧
            (if s.arg1.toNat ≤ s.arg2.toNat then s.arg1.toNat ≤ i.val ∧ i.val < s.arg2.toNat
             else s.arg1.toNat ≤ i.val ∨ i.val < s.arg2.toNat)
          then (1 : Word) <<< i.val else 0) ∧
        exec (.mmask d) s = .next { s with mats := s.mats.set d m })) ∧
    (s.arg0.toNat < 1 ∨ 32 < s.arg0.toNat →
      exec (.munity d) s = .next (raiseFault .range ((0x10 : Word) ||| BitVec.ofNat 32 d.val <<< 8) s) ∧
      exec (.mshift d) s = .next (raiseFault .range ((0x11 : Word) ||| BitVec.ofNat 32 d.val <<< 8) s) ∧
      exec (.mmask d) s = .next (raiseFault .range ((0x12 : Word) ||| BitVec.ofNat 32 d.val <<< 8) s))

/-- MADD and MMUL: E_EMPTY where a source is unwritten, else E_WIDTH where the widths differ, else the
destination takes the column-wise XOR or the product (rules R78, R80 with R69, R71). The destination may be a
source. -/
def Obligations.MatrixAddAndMultiply : Prop :=
  ∀ (s : State) (d a b : MReg),
    let reg : MReg → Nat → Word := fun r lo => BitVec.ofNat 32 r.val <<< lo
    let wAdd : Word := (0x13 : Word) ||| reg d 8 ||| reg a 12 ||| reg b 16
    let wMul : Word := (0x15 : Word) ||| reg d 8 ||| reg a 12 ||| reg b 16
    ((s.mat a).n = 0 ∨ (s.mat b).n = 0 →
      exec (.madd d a b) s = .next (raiseFault .empty wAdd s) ∧
      exec (.mmul d a b) s = .next (raiseFault .empty wMul s)) ∧
    ((s.mat a).n ≠ 0 → (s.mat b).n ≠ 0 → (s.mat a).n ≠ (s.mat b).n →
      exec (.madd d a b) s = .next (raiseFault .width wAdd s) ∧
      exec (.mmul d a b) s = .next (raiseFault .width wMul s)) ∧
    ((s.mat a).n ≠ 0 → (s.mat a).n = (s.mat b).n →
      (∃ m : Mat, m.n = (s.mat a).n ∧
        (∀ i : Fin 32, m.col.get i = (s.mat a).col.get i ^^^ (s.mat b).col.get i) ∧
        exec (.madd d a b) s = .next { s with mats := s.mats.set d m }) ∧
      ∃ m : Mat, m.n = (s.mat a).n ∧
        (∀ i : Fin 32, m.col.get i =
          if i.val < m.n then columnSum (s.mat a) ((s.mat b).col.get i) else 0) ∧
        exec (.mmul d a b) s = .next { s with mats := s.mats.set d m })

/-- MVMUL: RES takes the XOR of the columns that ARG0 selects; E_EMPTY on an unwritten register, then E_WIDTH
on a vector with a bit at or above the width (rule R79 with R70). -/
def Obligations.MatrixTimesVector : Prop :=
  ∀ (s : State) (a : MReg),
    ((s.mat a).n = 0 → exec (.mvmul a) s = .next (raiseFault .empty ((0x14 : Word) ||| BitVec.ofNat 32 a.val <<< 12) s)) ∧
    ((s.mat a).n ≠ 0 → (s.mat a).n < 32 → s.arg0 >>> (s.mat a).n ≠ 0 →
      exec (.mvmul a) s = .next (raiseFault .width ((0x14 : Word) ||| BitVec.ofNat 32 a.val <<< 12) s)) ∧
    ((s.mat a).n ≠ 0 → (32 ≤ (s.mat a).n ∨ s.arg0 >>> (s.mat a).n = 0) →
      exec (.mvmul a) s = .next { s with res := columnSum (s.mat a) s.arg0 })

/-- MROM, MGET and MSETCOL with their checks in order (rules R82, R83, R84). -/
def Obligations.MatrixMoves : Prop :=
  ∀ (s : State) (d : MReg),
    (∀ k : RomIndex, exec (.mrom d k) s = .next { s with mats := s.mats.set d (rom k) }) ∧
    ((s.mat d).n = 0 →
      exec (.mget d) s = .next (raiseFault .empty ((0x19 : Word) ||| BitVec.ofNat 32 d.val <<< 12) s) ∧
      exec (.msetcol d) s = .next (raiseFault .empty ((0x1A : Word) ||| BitVec.ofNat 32 d.val <<< 8) s)) ∧
    ((s.mat d).n ≠ 0 → (s.mat d).n ≤ 32 →
      (∃ x : Table Word 257,
        (∀ i : Fin 257, x.get i = if i.val < (s.mat d).n then (s.mat d).column i.val else 0) ∧
        exec (.mget d) s = .next { s with xb := x, xlen := (s.mat d).n }) ∧
      ((s.mat d).n ≤ s.arg1.toNat →
        exec (.msetcol d) s = .next (raiseFault .range ((0x1A : Word) ||| BitVec.ofNat 32 d.val <<< 8) s)) ∧
      (s.arg1.toNat < (s.mat d).n → (s.mat d).n < 32 → s.arg0 >>> (s.mat d).n ≠ 0 →
        exec (.msetcol d) s = .next (raiseFault .range ((0x1A : Word) ||| BitVec.ofNat 32 d.val <<< 8) s)) ∧
      (s.arg1.toNat < (s.mat d).n → ((s.mat d).n = 32 ∨ s.arg0 >>> (s.mat d).n = 0) →
        ∃ m : Mat, m.n = (s.mat d).n ∧
          (∀ i : Fin 32, m.col.get i = if i.val = s.arg1.toNat then s.arg0 else (s.mat d).col.get i) ∧
          exec (.msetcol d) s = .next { s with mats := s.mats.set d m }))

/-- MPOW: the destination takes the e-fold product of the source, e the unsigned 64-bit value of ARG1:ARG0,
with the identity for e = 0; E_EMPTY on an unwritten source (rules R72, R81). -/
def Obligations.MatrixPower : Prop :=
  ∀ (s : State) (d a : MReg),
    ((s.mat a).n = 0 →
      exec (.mpow d a) s =
        .next (raiseFault .empty ((0x16 : Word) ||| BitVec.ofNat 32 d.val <<< 8 ||| BitVec.ofNat 32 a.val <<< 12) s)) ∧
    ((s.mat a).n ≠ 0 → matOk (s.mat a) →
      exec (.mpow d a) s =
        .next { s with mats := s.mats.set d
                        ((fun q => matMul q (s.mat a))^[s.arg1.toNat * 2 ^ 32 + s.arg0.toNat] (unity (s.mat a).n)) })

/-- A product applies its right factor first (rule R71), and the constructed matrices act on vectors as the
shift and the mask they are named for (rules R67, R68). -/
def Obligations.MatricesActOnVectors : Prop :=
  (∀ (p q : Mat) (v : Word), p.n = q.n → p.n ≤ 32 → matVec (matMul p q) v = matVec p (matVec q v)) ∧
  (∀ (n k : Nat) (v : Word), 1 ≤ n → n ≤ 32 → v.toNat < 2 ^ n →
    matVec (shiftMat n k) v = (v <<< k) &&& BitVec.ofNat 32 (2 ^ n - 1) ∧
    matVec (shiftMat n (-(k : Int))) v = v >>> k ∧ matVec (unity n) v = v) ∧
  ∀ (m : Nat) (z : Word), m ≤ 32 → matVec (maskMat 32 m 32) z = z &&& ~~~(BitVec.ofNat 32 (2 ^ m - 1))

/-- The laws 1 to 4 of rule R73: the identity on both sides, the zeroth power, the sum of exponents, and the
two shift products on the fully set vector. -/
def Obligations.MatrixLaws : Prop :=
  (∀ m : Mat, matOk m → 1 ≤ m.n →
    matMul (unity m.n) m = m ∧ matMul m (unity m.n) = m ∧ matPow m 0 = unity m.n ∧
    ∀ a b : Nat, a + b < 2 ^ 64 → matPow m (a + b) = matMul (matPow m a) (matPow m b)) ∧
  ∀ n k : Nat, 1 ≤ n → n ≤ 32 → k ≤ n →
    (matVec (matMul (shiftMat n k) (shiftMat n (-(k : Int)))) (BitVec.ofNat 32 (2 ^ n - 1))).toNat =
      2 ^ n - 2 ^ k ∧
    (matVec (matMul (shiftMat n (-(k : Int))) (shiftMat n k)) (BitVec.ofNat 32 (2 ^ n - 1))).toNat =
      2 ^ (n - k) - 1

/-- Rules R23 and R73 item 5: each read-only matrix is the one-step transform of its lane on every 32-bit
word, and its j-th power takes j steps. -/
def Obligations.RomMatricesStepTheirLanes : Prop :=
  ∀ (k : RomIndex) (z : Word),
    matVec (rom k) z = romStep k z ∧
    ∀ j : Nat, j < 2 ^ 64 → matVec (matPow (rom k) j) z = (romStep k)^[j] z

/-! ### Advancing, and reading the output -/

/-- ADV on CONG, SHR3, MWC and MWC64 (rules R89, R101, R113, R124 with R86, R96, R108, R109, R120). -/
def Obligations.AdvancePrimitives : Prop :=
  ∀ s : State,
    (s.isSeeded .cong = true →
      exec .advCong s = .next { s with cong := 69069 * s.cong + 12345, res := 69069 * s.cong + 12345 }) ∧
    (s.isSeeded .shr3 = true →
      let a : Word := s.shr3 ^^^ ((s.shr3 &&& 0x0007FFFF) <<< 13)
      let b : Word := a ^^^ (a >>> 17)
      let y : Word := b ^^^ ((b &&& 0x07FFFFFF) <<< 5)
      exec .advShr3 s = .next { s with shr3 := y, res := y }) ∧
    (s.isSeeded .mwc = true →
      let u : Word := (36969 : Word) * (s.mwc.upper &&& (0xFFFF : Word)) + (s.mwc.upper >>> 16)
      let l : Word := (18000 : Word) * (s.mwc.lower &&& (0xFFFF : Word)) + (s.mwc.lower >>> 16)
      exec .advMwc s =
        .next { s with
                mwc := ⟨u, l⟩
                res := if s.mwcComb then ((u &&& 0xFFFF) <<< 16) + l
                       else ((u &&& 0xFFFF) <<< 16) + (u >>> 16) + l }) ∧
    (s.isSeeded .mwc64 = true →
      let v : DWord := BitVec.ofNat 64 (698769069 * s.mwc64.toNat % 3001190298811367423)
      exec .advMwc64 s = .next { s with mwc64 := v, res := v.setWidth 32 }) ∧
    ∀ u ∈ [UnitId.cong, .shr3, .mwc, .mwc64], s.isSeeded u = false →
      exec (advOf u) s = .next (raiseFault .unseeded (genWord 0x21 u) s)

/-- ADV on LFSR113 and LFSR88: each lane steps under its own constants and RES is the XOR of the new lanes
(rules R141, R149 with R131, R132, R133, R139). -/
def Obligations.AdvanceLfsr : Prop :=
  ∀ s : State,
    let lane := fun (maskA : Word) (sA sB : Nat) (maskC : Word) (sD : Nat) (z : Word) =>
      ((z &&& maskC) <<< sD) ^^^ ((((z &&& maskA) <<< sA) ^^^ z) >>> sB)
    (s.isSeeded .lfsr113 = true →
      let z1 : Word := lane 0x03FFFFFF 6 13 0xFFFFFFFE 18 s.lfsr113.z1
      let z2 : Word := lane 0x3FFFFFFF 2 27 0xFFFFFFF8 2 s.lfsr113.z2
      let z3 : Word := lane 0x0007FFFF 13 21 0xFFFFFFF0 7 s.lfsr113.z3
      let z4 : Word := lane 0x1FFFFFFF 3 12 0xFFFFFF80 13 s.lfsr113.z4
      exec .advLfsr113 s = .next { s with lfsr113 := ⟨z1, z2, z3, z4⟩, res := z1 ^^^ z2 ^^^ z3 ^^^ z4 }) ∧
    (s.isSeeded .lfsr88 = true →
      let z1 : Word := lane 0x0007FFFF 13 19 0xFFFFFFFE 12 s.lfsr88.z1
      let z2 : Word := lane 0x3FFFFFFF 2 25 0xFFFFFFF8 4 s.lfsr88.z2
      let z3 : Word := lane 0x1FFFFFFF 3 11 0xFFFFFFF0 17 s.lfsr88.z3
      exec .advLfsr88 s = .next { s with lfsr88 := ⟨z1, z2, z3⟩, res := z1 ^^^ z2 ^^^ z3 }) ∧
    ∀ u ∈ [UnitId.lfsr113, .lfsr88], s.isSeeded u = false →
      exec (advOf u) s = .next (raiseFault .unseeded (genWord 0x21 u) s)

/-- ADV on KISS and KISS2: every constituent steps and RES combines the new values, KISS with the rotated MWC
output whatever MODE holds (rules R173, R181 with R171). -/
def Obligations.AdvanceKiss : Prop :=
  ∀ s : State,
    (s.isSeeded .kiss = true →
      let u : Word := (36969 : Word) * (s.kiss.mwc.upper &&& (0xFFFF : Word)) + (s.kiss.mwc.upper >>> 16)
      let l : Word := (18000 : Word) * (s.kiss.mwc.lower &&& (0xFFFF : Word)) + (s.kiss.mwc.lower >>> 16)
      let c : Word := 69069 * s.kiss.cong + 12345
      let y : Word := stepShr3 s.kiss.shr3
      exec .advKiss s =
        .next { s with
                kiss := ⟨⟨u, l⟩, c, y⟩
                res := ((((u &&& 0xFFFF) <<< 16) + (u >>> 16) + l) ^^^ c) + y }) ∧
    (s.isSeeded .kiss2 = true →
      let v : DWord := BitVec.ofNat 64 (698769069 * s.kiss2.mwc64.toNat % 3001190298811367423)
      let c : Word := 69069 * s.kiss2.cong + 12345
      let y : Word := stepShr3 s.kiss2.shr3
      exec .advKiss2 s = .next { s with kiss2 := ⟨v, c, y⟩, res := v.setWidth 32 + c + y }) ∧
    ∀ u ∈ [UnitId.kiss, .kiss2], s.isSeeded u = false →
      exec (advOf u) s = .next (raiseFault .unseeded (genWord 0x21 u) s)

/-- ADV on LFIB4 and SWB: the cursor moves first, all reads are of the buffer before the write, and SWB's new
borrow is the comparison after reduction (rules R191, R199 with R188). -/
def Obligations.AdvanceRings : Prop :=
  ∀ s : State,
    (s.isSeeded .lfib4 = true →
      let at' := fun d : Nat => s.lfib4.buf.get (Fin.ofNat 256 (s.lfib4.cursor.val + 1 + d))
      let new : Word := at' 0 + at' 58 + at' 119 + at' 178
      let c := Fin.ofNat 256 (s.lfib4.cursor.val + 1)
      exec .advLfib4 s = .next { s with lfib4 := ⟨s.lfib4.buf.set c new, c⟩, res := new }) ∧
    (s.isSeeded .swb = true →
      let at' := fun d : Nat => s.swb.buf.get (Fin.ofNat 256 (s.swb.cursor.val + 1 + d))
      let x : Word := at' 34
      let y : Word := at' 19 + (if s.swb.borrow then 1 else 0)
      let c := Fin.ofNat 256 (s.swb.cursor.val + 1)
      exec .advSwb s =
        .next { s with swb := ⟨s.swb.buf.set c (x - y), c, decide (x.toNat < y.toNat)⟩, res := x - y }) ∧
    ∀ u ∈ [UnitId.lfib4, .swb], s.isSeeded u = false →
      exec (advOf u) s = .next (raiseFault .unseeded (genWord 0x21 u) s)

/-- CUR on every unit: RES takes the output that belongs to the present state and nothing else changes (rules
R90, R102, R114, R125, R142, R150, R174, R182, R192, R200). -/
def Obligations.CurrentOutputs : Prop :=
  ∀ s : State,
    let rotated : Word → Word → Word := fun u l => ((u &&& 0xFFFF) <<< 16) + (u >>> 16) + l
    (s.isSeeded .cong = true → exec .curCong s = .next { s with res := s.cong }) ∧
    (s.isSeeded .shr3 = true → exec .curShr3 s = .next { s with res := s.shr3 }) ∧
    (s.isSeeded .mwc = true →
      exec .curMwc s =
        .next { s with
                res := if s.mwcComb then ((s.mwc.upper &&& 0xFFFF) <<< 16) + s.mwc.lower
                       else rotated s.mwc.upper s.mwc.lower }) ∧
    (s.isSeeded .mwc64 = true → exec .curMwc64 s = .next { s with res := s.mwc64.setWidth 32 }) ∧
    (s.isSeeded .lfsr113 = true →
      exec .curLfsr113 s =
        .next { s with res := s.lfsr113.z1 ^^^ s.lfsr113.z2 ^^^ s.lfsr113.z3 ^^^ s.lfsr113.z4 }) ∧
    (s.isSeeded .lfsr88 = true →
      exec .curLfsr88 s = .next { s with res := s.lfsr88.z1 ^^^ s.lfsr88.z2 ^^^ s.lfsr88.z3 }) ∧
    (s.isSeeded .kiss = true →
      exec .curKiss s =
        .next { s with res := (rotated s.kiss.mwc.upper s.kiss.mwc.lower ^^^ s.kiss.cong) + s.kiss.shr3 }) ∧
    (s.isSeeded .kiss2 = true →
      exec .curKiss2 s = .next { s with res := s.kiss2.mwc64.setWidth 32 + s.kiss2.cong + s.kiss2.shr3 }) ∧
    (s.isSeeded .lfib4 = true → exec .curLfib4 s = .next { s with res := s.lfib4.buf.get s.lfib4.cursor }) ∧
    (s.isSeeded .swb = true → exec .curSwb s = .next { s with res := s.swb.buf.get s.swb.cursor }) ∧
    ∀ u : UnitId, s.isSeeded u = false →
      exec (curOf u) s = .next (raiseFault .unseeded (genWord 0x22 u) s)

/-! ### The state tuple -/

/-- GETST on every unit: XB takes the state tuple and zeros after it, XLEN its length, and nothing else
changes (rules R91, R103, R115, R126, R143, R151, R175, R183, R193, R201). -/
def Obligations.GetState : Prop :=
  ∀ (s : State) (u : UnitId),
    (s.isSeeded u = true →
      exec (getstOf u) s =
        .next { s with
                xb := Table.tab 257 fun i => (stateTuple s u).getD i 0
                xlen := tupleLength u }) ∧
    (stateTuple s u).length = tupleLength u ∧
    (s.isSeeded u = false → exec (getstOf u) s = .next (raiseFault .unseeded (genWord 0x23 u) s))

/-- SETST on every unit: a queue of exactly the tuple's length of limbs sets the unit's fields, sanitized and
with no spreading, the valid bit, and leaves the queue empty; any other queue is E_SEEDLEN and changes
nothing (rules R92, R104, R116, R127, R144, R152, R176, R184, R194, R202 with R165). -/
def Obligations.SetState : Prop :=
  ∀ s : State,
    (∀ a : Word, s.sq = [.limb a] →
      exec .setstCong s = .next { s with seeded := s.seeded.set 0 true, sq := [], cong := a } ∧
      exec .setstShr3 s = .next { s with seeded := s.seeded.set 1 true, sq := [], shr3 := sanShr3 a }) ∧
    (∀ a b : Word, s.sq = [.limb a, .limb b] →
      exec .setstMwc s = .next { s with seeded := s.seeded.set 2 true, sq := [], mwc := ⟨sanU a, sanL b⟩ } ∧
      exec .setstMwc64 s =
        .next { s with seeded := s.seeded.set 3 true, sq := [], mwc64 := sanMwc64 (a ++ b) }) ∧
    (∀ a b c d : Word, s.sq = [.limb a, .limb b, .limb c, .limb d] →
      exec .setstLfsr113 s =
        .next { s with
                seeded := s.seeded.set 4 true, sq := []
                lfsr113 := ⟨laneSan lane113z1 a, laneSan lane113z2 b, laneSan lane113z3 c, laneSan lane113z4 d⟩ } ∧
      exec .setstKiss s =
        .next { s with
                seeded := s.seeded.set 6 true, sq := [], kiss := ⟨⟨sanU a, sanL b⟩, c, sanShr3 d⟩ } ∧
      exec .setstKiss2 s =
        .next { s with
                seeded := s.seeded.set 7 true, sq := [], kiss2 := ⟨sanMwc64 (a ++ b), c, sanShr3 d⟩ }) ∧
    (∀ a b c : Word, s.sq = [.limb a, .limb b, .limb c] →
      exec .setstLfsr88 s =
        .next { s with
                seeded := s.seeded.set 5 true, sq := []
                lfsr88 := ⟨laneSan lane88z1 a, laneSan lane88z2 b, laneSan lane88z3 c⟩ }) ∧
    (∀ v : Table Word 256, s.sq = v.toList.map .limb →
      exec .setstLfib4 s = .next { s with seeded := s.seeded.set 8 true, sq := [], lfib4 := ⟨v, 0⟩ }) ∧
    (∀ (v : Table Word 256) (b : Word), s.sq = v.toList.map .limb ++ [.limb b] →
      exec .setstSwb s =
        .next { s with seeded := s.seeded.set 9 true, sq := [], swb := ⟨v, 0, b.getLsbD 0⟩ }) ∧
    ∀ u : UnitId, (¬ ∃ l : List Word, l.length = tupleLength u ∧ s.sq = l.map .limb) →
      exec (setstOf u) s = .next (raiseFault .seedLen (genWord 0x24 u) s)

/-- SAN on every unit applies the unit's sanitize functions to its own fields; on a sound state, where every
seeded unit holds a valid state, it changes nothing (rules R93, R105, R117, R128, R145, R153, R177, R185,
R195, R203). -/
def Obligations.SanitizeCommands : Prop :=
  ∀ s : State,
    (s.isSeeded .cong = true → exec .sanCong s = .next s) ∧
    (s.isSeeded .shr3 = true → exec .sanShr3 s = .next { s with shr3 := sanShr3 s.shr3 }) ∧
    (s.isSeeded .mwc = true → exec .sanMwc s = .next { s with mwc := ⟨sanU s.mwc.upper, sanL s.mwc.lower⟩ }) ∧
    (s.isSeeded .mwc64 = true → exec .sanMwc64 s = .next { s with mwc64 := sanMwc64 s.mwc64 }) ∧
    (s.isSeeded .lfsr113 = true →
      exec .sanLfsr113 s =
        .next { s with
                lfsr113 := ⟨laneSan lane113z1 s.lfsr113.z1, laneSan lane113z2 s.lfsr113.z2,
                            laneSan lane113z3 s.lfsr113.z3, laneSan lane113z4 s.lfsr113.z4⟩ }) ∧
    (s.isSeeded .lfsr88 = true →
      exec .sanLfsr88 s =
        .next { s with
                lfsr88 := ⟨laneSan lane88z1 s.lfsr88.z1, laneSan lane88z2 s.lfsr88.z2,
                           laneSan lane88z3 s.lfsr88.z3⟩ }) ∧
    (s.isSeeded .kiss = true →
      exec .sanKiss s =
        .next { s with
                kiss := ⟨⟨sanU s.kiss.mwc.upper, sanL s.kiss.mwc.lower⟩, s.kiss.cong, sanShr3 s.kiss.shr3⟩ }) ∧
    (s.isSeeded .kiss2 = true →
      exec .sanKiss2 s =
        .next { s with kiss2 := ⟨sanMwc64 s.kiss2.mwc64, s.kiss2.cong, sanShr3 s.kiss2.shr3⟩ }) ∧
    (s.isSeeded .lfib4 = true → exec .sanLfib4 s = .next s) ∧
    (s.isSeeded .swb = true → exec .sanSwb s = .next s) ∧
    (∀ u : UnitId, s.Sound → s.isSeeded u = true → exec (sanOf u) s = .next s) ∧
    ∀ u : UnitId, s.isSeeded u = false →
      exec (sanOf u) s = .next (raiseFault .unseeded (genWord 0x25 u) s)

/-- The sanitize functions by value: reduction modulo the lane's modulus, and of the inverted value where that
is 0; zero replaced by all ones; inversion below the lane's threshold. Each result is a valid state, and a
valid state is kept (rules R97, R110, R121, R134). -/
def Obligations.SanitizersGiveValidStates : Prop :=
  (∀ v : Word,
    (sanU v).toNat = (if v.toNat % 2422800383 ≠ 0 then v.toNat else 0xFFFFFFFF - v.toNat) % 2422800383 ∧
    (sanL v).toNat = (if v.toNat % 1179647999 ≠ 0 then v.toNat else 0xFFFFFFFF - v.toNat) % 1179647999 ∧
    mwcOk ⟨sanU v, sanL v⟩ ∧
    sanShr3 v = (if v = 0 then 0xFFFFFFFF else v) ∧ sanShr3 v ≠ 0) ∧
  (∀ m : Mwc, mwcOk m → sanU m.upper = m.upper ∧ sanL m.lower = m.lower) ∧
  (∀ v : DWord,
    (sanMwc64 v).toNat =
      (if v.toNat % 3001190298811367423 ≠ 0 then v.toNat else 0xFFFFFFFFFFFFFFFF - v.toNat) %
        3001190298811367423 ∧
    mwc64Ok (sanMwc64 v) ∧ (mwc64Ok v → sanMwc64 v = v)) ∧
  ∀ p ∈ [lane113z1, lane113z2, lane113z3, lane113z4, lane88z1, lane88z2, lane88z3], ∀ z : Word,
    laneSan p z = (if z.toNat < 2 ^ p.s then ~~~z else z) ∧ laneOk p (laneSan p z)

/-! ### Seeding -/

/-- SEED on CONG, SHR3, MWC and MWC64, in every state: the seed fields with their defaults, sanitized, then
with X the limbs beyond them folded in; the valid bit set and the queue left empty (rules R88, R100, R112,
R123 with R164, R166, R167). -/
def Obligations.SeedPrimitives : Prop :=
  ∀ (s : State) (x : Bool),
    let ones : Word := 0xFFFFFFFF
    let extras := fun k : Nat => if x then seedExtras k s.sq else []
    exec (.seedCong x) s =
      .next { s with
              seeded := s.seeded.set 0 true, sq := []
              cong := (extras 1).foldl (fun c w => stepCong (c ^^^ w)) (seedField s.sq 0 0) } ∧
    exec (.seedShr3 x) s =
      .next { s with
              seeded := s.seeded.set 1 true, sq := []
              shr3 := (extras 1).foldl (fun y w => stepShr3 (sanShr3 (y ^^^ w)))
                (sanShr3 (seedField s.sq 0 ones)) } ∧
    exec (.seedMwc x) s =
      .next { s with
              seeded := s.seeded.set 2 true, sq := []
              mwc := (extras 2).foldl (mix1Mwc s.mwcComb)
                ⟨sanU (seedField s.sq 0 ones), sanL (seedField s.sq 1 ones)⟩ } ∧
    exec (.seedMwc64 x) s =
      .next { s with
              seeded := s.seeded.set 3 true, sq := []
              mwc64 := (extras 2).foldl mix1Mwc64
                (sanMwc64 (seedField s.sq 0 ones ++ seedField s.sq 1 ones)) }

/-- SEED on LFSR113 and LFSR88: as on the other units, with each field spread before it is sanitized (rules
R140, R148 with R135). -/
def Obligations.SeedLfsr : Prop :=
  ∀ (s : State) (x : Bool),
    let extras := fun k : Nat => if x then seedExtras k s.sq else []
    let v := fun j : Nat => seedField s.sq j 0xFFFFFFFF ^^^ (seedField s.sq j 0xFFFFFFFF <<< 16)
    exec (.seedLfsr113 x) s =
      .next { s with
              seeded := s.seeded.set 4 true, sq := []
              lfsr113 := (extras 4).foldl mix1Lfsr113
                ⟨laneSan lane113z1 (v 0), laneSan lane113z2 (v 1), laneSan lane113z3 (v 2),
                  laneSan lane113z4 (v 3)⟩ } ∧
    exec (.seedLfsr88 x) s =
      .next { s with
              seeded := s.seeded.set 5 true, sq := []
              lfsr88 := (extras 3).foldl mix1Lfsr88
                ⟨laneSan lane88z1 (v 0), laneSan lane88z2 (v 1), laneSan lane88z3 (v 2)⟩ }

/-- SEED on KISS and KISS2: four fields taken in order across the constituents, each sanitized by its own
family, then with X the remainder mixed in (rules R172, R180 with R166). -/
def Obligations.SeedKissUnits : Prop :=
  ∀ (s : State) (x : Bool),
    let ones : Word := 0xFFFFFFFF
    let extras := if x then seedExtras 4 s.sq else []
    exec (.seedKiss x) s =
      .next { s with
              seeded := s.seeded.set 6 true, sq := []
              kiss := extras.foldl mix1Kiss
                ⟨⟨sanU (seedField s.sq 0 ones), sanL (seedField s.sq 1 ones)⟩, seedField s.sq 2 0,
                  sanShr3 (seedField s.sq 3 ones)⟩ } ∧
    exec (.seedKiss2 x) s =
      .next { s with
              seeded := s.seeded.set 7 true, sq := []
              kiss2 := extras.foldl mix1Kiss2
                ⟨sanMwc64 (seedField s.sq 0 ones ++ seedField s.sq 1 ones), seedField s.sq 2 0,
                  sanShr3 (seedField s.sq 3 ones)⟩ }

/-- SEED on LFIB4 and SWB: E_UNSUP with X; else the bootstrap for an empty queue, 256 limbs as the buffer,
anything else E_SEEDLEN; the cursor and SWB's borrow are 0 (rules R190, R198). The last clause gives the
bootstrap words that rule R189 names. -/
def Obligations.SeedRings : Prop :=
  ∀ s : State,
    (s.sq = [] →
      exec (.seedLfib4 false) s =
        .next { s with seeded := s.seeded.set 8 true, sq := [], lfib4 := ⟨boot, 0⟩ } ∧
      exec (.seedSwb false) s =
        .next { s with seeded := s.seeded.set 9 true, sq := [], swb := ⟨boot, 0, false⟩ }) ∧
    (∀ v : Table Word 256, s.sq = v.toList.map .limb →
      exec (.seedLfib4 false) s =
        .next { s with seeded := s.seeded.set 8 true, sq := [], lfib4 := ⟨v, 0⟩ } ∧
      exec (.seedSwb false) s =
        .next { s with seeded := s.seeded.set 9 true, sq := [], swb := ⟨v, 0, false⟩ }) ∧
    (s.sq ≠ [] → (¬ ∃ l : List Word, l.length = 256 ∧ s.sq = l.map .limb) →
      exec (.seedLfib4 false) s = .next (raiseFault .seedLen 0x00000820 s) ∧
      exec (.seedSwb false) s = .next (raiseFault .seedLen 0x00000920 s)) ∧
    exec (.seedLfib4 true) s = .next (raiseFault .unsup 0x00100820 s) ∧
    exec (.seedSwb true) s = .next (raiseFault .unsup 0x00100920 s) ∧
    boot.get 0 = 0x35588294 ∧ boot.get 1 = 0xA6CDF03A ∧ boot.get 2 = 0x06B78BF0 ∧
    boot.get 3 = 0x4FE86D46 ∧ boot.get 255 = 0x7BF5D016

/-! ### Mixing -/

/-- MIX on CONG, SHR3, MWC and MWC64: every limb of the queue, absent markers dropped, is folded in by the
unit's one-limb mixer, and the queue is left empty (rules R95, R107, R119, R130 with R164, R168). -/
def Obligations.MixPrimitives : Prop :=
  ∀ s : State,
    let ws := s.sq.filterMap limbOf
    (s.isSeeded .cong = true →
      exec .mixCong s = .next { s with sq := [], cong := ws.foldl (fun c w => 69069 * (c ^^^ w) + 12345) s.cong }) ∧
    (s.isSeeded .shr3 = true →
      exec .mixShr3 s =
        .next { s with sq := [], shr3 := ws.foldl (fun y w => stepShr3 (sanShr3 (y ^^^ w))) s.shr3 }) ∧
    (s.isSeeded .mwc = true →
      exec .mixMwc s =
        .next { s with
                sq := []
                mwc := ws.foldl
                  (fun m w => if (outMwc m s.mwcComb).toNat * 2 / 2 ^ 32 = 0
                    then ⟨stepU (sanU (m.upper ^^^ w)), m.lower⟩
                    else ⟨m.upper, stepL (sanL (m.lower ^^^ w))⟩) s.mwc }) ∧
    (s.isSeeded .mwc64 = true →
      exec .mixMwc64 s =
        .next { s with
                sq := []
                mwc64 := ws.foldl
                  (fun v w => stepMwc64 (sanMwc64
                    (if (v.setWidth 32).toNat * 2 / 2 ^ 32 = 0 then v ^^^ (w ++ (0 : Word))
                     else v ^^^ ((0 : Word) ++ w)))) s.mwc64 }) ∧
    ∀ u ∈ [UnitId.cong, .shr3, .mwc, .mwc64], s.isSeeded u = false →
      exec (mixOf u) s = .next (raiseFault .unseeded (genWord 0x27 u) s)

/-- MIX on LFSR113 and LFSR88: the output selects a lane, which takes the limb unspread, is sanitized and
advanced once (rules R147, R155). -/
def Obligations.MixLfsr : Prop :=
  ∀ s : State,
    let ws := s.sq.filterMap limbOf
    let mixed := fun (p : Lane) (z w : Word) => laneStep p (laneSan p (z ^^^ w))
    (s.isSeeded .lfsr113 = true →
      exec .mixLfsr113 s =
        .next { s with
                sq := []
                lfsr113 := ws.foldl
                  (fun z w =>
                    let j := (z.z1 ^^^ z.z2 ^^^ z.z3 ^^^ z.z4).toNat * 4 / 2 ^ 32
                    ⟨if j = 0 then mixed lane113z1 z.z1 w else z.z1,
                      if j = 1 then mixed lane113z2 z.z2 w else z.z2,
                      if j = 2 then mixed lane113z3 z.z3 w else z.z3,
                      if j = 3 then mixed lane113z4 z.z4 w else z.z4⟩) s.lfsr113 }) ∧
    (s.isSeeded .lfsr88 = true →
      exec .mixLfsr88 s =
        .next { s with
                sq := []
                lfsr88 := ws.foldl
                  (fun z w =>
                    let j := (z.z1 ^^^ z.z2 ^^^ z.z3).toNat * 3 / 2 ^ 32
                    ⟨if j = 0 then mixed lane88z1 z.z1 w else z.z1,
                      if j = 1 then mixed lane88z2 z.z2 w else z.z2,
                      if j = 2 then mixed lane88z3 z.z3 w else z.z3⟩) s.lfsr88 }) ∧
    ∀ u ∈ [UnitId.lfsr113, .lfsr88], s.isSeeded u = false →
      exec (mixOf u) s = .next (raiseFault .unseeded (genWord 0x27 u) s)

/-- MIX on KISS and KISS2: the composite's output selects a constituent, whose own one-limb mixer takes the
limb (rules R179, R187). -/
def Obligations.MixKissUnits : Prop :=
  ∀ s : State,
    let ws := s.sq.filterMap limbOf
    (s.isSeeded .kiss = true →
      exec .mixKiss s =
        .next { s with
                sq := []
                kiss := ws.foldl
                  (fun k w =>
                    let j := (outKiss k).toNat * 3 / 2 ^ 32
                    ⟨if j = 0 then mix1Mwc false k.mwc w else k.mwc,
                      if j = 1 then stepCong (k.cong ^^^ w) else k.cong,
                      if j = 2 then stepShr3 (sanShr3 (k.shr3 ^^^ w)) else k.shr3⟩) s.kiss }) ∧
    (s.isSeeded .kiss2 = true →
      exec .mixKiss2 s =
        .next { s with
                sq := []
                kiss2 := ws.foldl
                  (fun k w =>
                    let j := (outKiss2 k).toNat * 3 / 2 ^ 32
                    ⟨if j = 0 then mix1Mwc64 k.mwc64 w else k.mwc64,
                      if j = 1 then stepCong (k.cong ^^^ w) else k.cong,
                      if j = 2 then stepShr3 (sanShr3 (k.shr3 ^^^ w)) else k.shr3⟩) s.kiss2 }) ∧
    ∀ u ∈ [UnitId.kiss, .kiss2], s.isSeeded u = false →
      exec (mixOf u) s = .next (raiseFault .unseeded (genWord 0x27 u) s)

/-! ### Jumping ahead -/

/-- JUMP on CONG is `ARG0` steps of the recurrence, in every state: the signed 64-bit distance matters modulo
2^32 only, negative distances included (rules R87, R94). -/
def Obligations.JumpCongSteps : Prop :=
  ∀ s : State,
    (s.isSeeded .cong = true →
      exec .jumpCong s = .next { s with cong := (fun x => 69069 * x + 12345)^[s.arg0.toNat] s.cong } ∧
      s.arg0.toNat = ((s.arg1 ++ s.arg0).toInt % 2 ^ 32).toNat) ∧
    (s.isSeeded .cong = false → exec .jumpCong s = .next (raiseFault .unseeded 0x00000026 s))

/-- JUMP on SHR3 is as many steps as the signed 64-bit distance modulo 2^32 - 1. R99 and R106 give a power of
the step matrix; the count of steps follows from R73 item 5 with R98. -/
def Obligations.JumpShr3Steps : Prop :=
  ∀ s : State,
    (s.isSeeded .shr3 = true →
      exec .jumpShr3 s =
        .next { s with shr3 := stepShr3^[((s.arg1 ++ s.arg0).toInt % 4294967295).toNat] s.shr3 }) ∧
    (s.isSeeded .shr3 = false → exec .jumpShr3 s = .next (raiseFault .unseeded 0x00000126 s))

/-- JUMP on MWC and MWC64 multiplies each lane by its multiplier's power modulo the lane's modulus, the
exponent reduced by the lane's own cycle length (rules R111, R118, R122, R129). -/
def Obligations.JumpMultiplicative : Prop :=
  ∀ s : State,
    let n : Int := (s.arg1 ++ s.arg0).toInt
    (s.isSeeded .mwc = true →
      exec .jumpMwc s =
        .next { s with
                mwc := ⟨BitVec.ofNat 32 (36969 ^ (n % 1211400191).toNat * s.mwc.upper.toNat % 2422800383),
                        BitVec.ofNat 32 (18000 ^ (n % 589823999).toNat * s.mwc.lower.toNat % 1179647999)⟩ }) ∧
    (s.isSeeded .mwc64 = true →
      exec .jumpMwc64 s =
        .next { s with
                mwc64 := BitVec.ofNat 64
                  (698769069 ^ (n % 1500595149405683711).toNat * s.mwc64.toNat % 3001190298811367423) }) ∧
    (s.isSeeded .mwc = false → exec .jumpMwc s = .next (raiseFault .unseeded 0x00000226 s)) ∧
    (s.isSeeded .mwc64 = false → exec .jumpMwc64 s = .next (raiseFault .unseeded 0x00000326 s))

/-- On valid lanes a jump by n >= 0 of MWC or MWC64 is n steps of the lanes, however many whole cycles n
holds (rules R108, R111, R120, R122). -/
def Obligations.MultiplicativeJumpIsSteps : Prop :=
  (∀ (m : Mwc) (n : Nat), mwcOk m → jumpMwc m n = ⟨stepU^[n] m.upper, stepL^[n] m.lower⟩) ∧
  ∀ (v : DWord) (n : Nat), mwc64Ok v → jumpMwc64 v n = stepMwc64^[n] v

/-- JUMP on LFSR113 and LFSR88 is, on each lane, as many steps as the distance modulo the lane's own cycle
length, for every lane value, its insignificant bits included. R137, R146 and R154 give a power of the lane's
matrix; the count of steps is R138's, which the spec derives (R73 item 5, R136). -/
def Obligations.JumpLfsrSteps : Prop :=
  ∀ s : State,
    let n : Int := (s.arg1 ++ s.arg0).toInt
    let jump := fun (p : Lane) (cycle : Int) (z : Word) => (laneStep p)^[(n % cycle).toNat] z
    (s.isSeeded .lfsr113 = true →
      exec .jumpLfsr113 s =
        .next { s with
                lfsr113 := ⟨jump lane113z1 2147483647 s.lfsr113.z1, jump lane113z2 536870911 s.lfsr113.z2,
                            jump lane113z3 268435455 s.lfsr113.z3, jump lane113z4 33554431 s.lfsr113.z4⟩ }) ∧
    (s.isSeeded .lfsr88 = true →
      exec .jumpLfsr88 s =
        .next { s with
                lfsr88 := ⟨jump lane88z1 2147483647 s.lfsr88.z1, jump lane88z2 536870911 s.lfsr88.z2,
                           jump lane88z3 268435455 s.lfsr88.z3⟩ }) ∧
    (s.isSeeded .lfsr113 = false → exec .jumpLfsr113 s = .next (raiseFault .unseeded 0x00000426 s)) ∧
    (s.isSeeded .lfsr88 = false → exec .jumpLfsr88 s = .next (raiseFault .unseeded 0x00000526 s))

/-- JUMP on KISS and KISS2 jumps every constituent by the same distance, each reducing it by its own cycle
length (rules R178, R186). The count of steps of the SHR3 part follows from R73 item 5 with R98 and R99. -/
def Obligations.JumpKissUnits : Prop :=
  ∀ s : State,
    let n : Int := (s.arg1 ++ s.arg0).toInt
    let cong := fun x : Word => (fun x => 69069 * x + 12345)^[(n % 4294967296).toNat] x
    let shr3 := fun y : Word => stepShr3^[(n % 4294967295).toNat] y
    (s.isSeeded .kiss = true →
      exec .jumpKiss s =
        .next { s with
                kiss :=
                  ⟨⟨BitVec.ofNat 32 (36969 ^ (n % 1211400191).toNat * s.kiss.mwc.upper.toNat % 2422800383),
                    BitVec.ofNat 32 (18000 ^ (n % 589823999).toNat * s.kiss.mwc.lower.toNat % 1179647999)⟩,
                  cong s.kiss.cong, shr3 s.kiss.shr3⟩ }) ∧
    (s.isSeeded .kiss2 = true →
      exec .jumpKiss2 s =
        .next { s with
                kiss2 :=
                  ⟨BitVec.ofNat 64
                    (698769069 ^ (n % 1500595149405683711).toNat * s.kiss2.mwc64.toNat % 3001190298811367423),
                  cong s.kiss2.cong, shr3 s.kiss2.shr3⟩ }) ∧
    (s.isSeeded .kiss = false → exec .jumpKiss s = .next (raiseFault .unseeded 0x00000626 s)) ∧
    (s.isSeeded .kiss2 = false → exec .jumpKiss2 s = .next (raiseFault .unseeded 0x00000726 s))

/-- A jump by n and then by -n comes back to the same state: every CONG value, every valid MWC and MWC64 lane
(rules R87, R111, R122). -/
def Obligations.JumpBackUndoes : Prop :=
  ∀ n : Int,
    (∀ x : Word, jumpCong (jumpCong x n) (-n) = x) ∧
    (∀ m : Mwc, mwcOk m → jumpMwc (jumpMwc m n) (-n) = m) ∧
    ∀ v : DWord, mwc64Ok v → jumpMwc64 (jumpMwc64 v n) (-n) = v

/-- The power 2^32 - 1 of the SHR3 step matrix is the identity, so a backward jump of SHR3 undoes a forward
one (rule R99). -/
def Obligations.Shr3CycleCloses : Prop :=
  matPow shr3Mat 4294967295 = unity 32 ∧ ∀ (y : Word) (n : Int), jumpShr3 (jumpShr3 y n) (-n) = y

/-! ### The whole machine -/

/-- Every step keeps a sound state sound: the matrix invariant, the queue's capacity, the exchange buffer's
zeros, the form of the fault record, and the valid state of every seeded unit (rules R14, R22, R25 to
R37). -/
def Obligations.StepKeepsSound : Prop :=
  ∀ s t : State, s.Sound → step s = .next t → t.Sound

/-- The state after reset is sound. -/
def Obligations.ResetIsSound : Prop :=
  State.reset.Sound

/-- Which commands can change which of the shared registers (rules R16, R17, R21, R25, R26): RES only RST,
MVMUL, ADV and CUR; ARG0..ARG2 and MODE only RST; a matrix register only RST and a matrix command naming it
as destination; XB and XLEN only RST, MGET and GETST; the queue only RST, the queue commands, SEED, SETST and
MIX; the host's side none. -/
def Obligations.WritersOfSharedRegisters : Prop :=
  ∀ (i : Instr) (s t : State), exec i s = .next t → i ≠ .rst →
    (t.res ≠ s.res → (∃ a, i = .mvmul a) ∨ ∃ u, i = advOf u ∨ i = curOf u) ∧
    (t.arg0 = s.arg0 ∧ t.arg1 = s.arg1 ∧ t.arg2 = s.arg2 ∧ t.mwcComb = s.mwcComb) ∧
    (∀ r : MReg, t.mat r ≠ s.mat r →
      i = .munity r ∨ i = .mshift r ∨ i = .mmask r ∨ i = .msetcol r ∨ (∃ k, i = .mrom r k) ∨
      ∃ a b, i = .madd r a b ∨ i = .mmul r a b ∨ i = .mpow r a) ∧
    (t.xb ≠ s.xb ∨ t.xlen ≠ s.xlen → (∃ a, i = .mget a) ∨ ∃ u, i = getstOf u) ∧
    (t.sq ≠ s.sq →
      i = .sqclr ∨ i = .sqpush ∨ i = .sqpusha ∨ i = .sqpushw ∨ i = .sqpushx ∨
      ∃ u, (∃ x, i = seedOf x u) ∨ i = setstOf u ∨ i = mixOf u) ∧
    t.inbox = s.inbox ∧ t.hostData = s.hostData

/-- A command that is not one of unit u's own, and is not RST, leaves unit u's fields and valid bit as they
were, so a composite and the primitive units never touch one another; only SEED and SETST on u set its valid
bit, and nothing but reset clears it (rules R27, R37, R39, R170). -/
def Obligations.UnitsAreIndependent : Prop :=
  ∀ (u : UnitId) (i : Instr) (s t : State), exec i s = .next t →
    (i ∉ unitCommands u → i ≠ .rst → sameUnit s t u ∧ t.isSeeded u = s.isSeeded u) ∧
    (s.isSeeded u = true → i ≠ .rst → t.isSeeded u = true) ∧
    (s.isSeeded u = false → t.isSeeded u = true → (∃ x, i = seedOf x u) ∨ i = setstOf u)

/-- The fields of an unseeded unit cannot be observed: two states that differ in nothing else take steps that
differ in nothing else, and the host reads the same words (rules R27, R40, R231). The value the model gives
such fields at reset (log entry 3) is thereby without effect. -/
def Obligations.UnseededFieldsUnobservable : Prop :=
  ∀ s t : State, sameSeen s t →
    (∀ a, portRead s a = portRead t a) ∧
    ∃ s' t', step s = .next s' ∧ step t = .next t' ∧ sameSeen s' t'

/-- `GETST u; SQCLR; SQPUSHX; SETST u` on a sound state completes and restores the unit: the same state tuple
bit for bit, and for every unit but the ring units the same fields (rules R162, R228). -/
def Obligations.StateTupleRoundTrip : Prop :=
  ∀ (s : State) (u : UnitId), s.Sound → s.isSeeded u = true →
    ∃ a b c d : State,
      exec (getstOf u) s = .next a ∧ exec .sqclr a = .next b ∧ exec .sqpushx b = .next c ∧
      exec (setstOf u) c = .next d ∧ stateTuple d u = stateTuple s u ∧
      (u ≠ .lfib4 → u ≠ .swb → sameUnit s d u)

/-- A ring rotated so that its cursor is 0 gives the same outputs for ever: the tuple GETST returns is the
seed that continues the sequence (rule R193, and rule R201 for SWB). -/
def Obligations.RotatedRingContinues : Prop :=
  (∀ l r : Lfib4, r.cursor = 0 → (∀ i, r.buf.get i = l.buf.get (l.cursor + i)) →
    ∀ k : Nat, outLfib4 (stepLfib4^[k] r) = outLfib4 (stepLfib4^[k] l)) ∧
  ∀ l r : Swb, r.cursor = 0 → r.borrow = l.borrow → (∀ i, r.buf.get i = l.buf.get (l.cursor + i)) →
    ∀ k : Nat, outSwb (stepSwb^[k] r) = outSwb (stepSwb^[k] l)
end

