-- ==== Sys2Proof/Laws/Config.lean ====
section
/-! SUPPORT. The parameters at the values this engine has (rule R5), and each function that reads a parameter
as the rule that uses it writes it, so that no proof unfolds the configuration. -/

namespace Sys2Proof

theorem Config.nMat_eq : Config.nMat = 8 := rfl
theorem Config.nMax_eq : Config.nMax = 32 := rfl
theorem Config.nRom_eq : Config.nRom = 8 := rfl
theorem Config.nUnits_eq : Config.nUnits = 10 := rfl
theorem Config.sqDepth_eq : Config.sqDepth = 512 := rfl
theorem Config.xbLen_eq : Config.xbLen = 257 := rfl
theorem Config.ring_eq : Config.ring = 256 := rfl

namespace Machine

variable (s : State)

/-- `n = s64(ARG1, ARG0)` (rule R56). -/
theorem jumpDistance_eq : jumpDistance s = (s.arg1 ++ s.arg0).toInt := by
  simp [jumpDistance, u64]

/-- `e = ARG1 * 2^32 + ARG0` (rule R56). -/
theorem powExponent_eq : powExponent s = s.arg1.toNat * 2 ^ 32 + s.arg0.toNat := by
  have h : powExponent s = (s.arg1 ++ s.arg0).toNat := by simp [powExponent, u64]
  rw [h, BitVec.toNat_append, Nat.shiftLeft_eq, Nat.mul_comm, Nat.two_pow_add_eq_or_of_lt s.arg0.isLt,
    Nat.mul_comm]

/-- `v = s64(ARG1, ARG0)` (rule R56). -/
theorem wideSeed_eq : wideSeed s = (s.arg1 ++ s.arg0).toInt := by
  simp [wideSeed, u64]

/-- `Limbs` of a 64-bit value is at most two limbs (rule R161). -/
theorem limbs_eq (v : Int) : limbs v = limbsUpTo 2 v := rfl

/-- `MIXSEL(k, c) = (c * k) >> 32` (rule R168). -/
theorem mixSel_eq (k : Nat) (c : Word) : mixSel k c = c.toNat * k / 2 ^ 32 := rfl

/-- `Spread(v)` (rule R135). -/
theorem spread_eq (v : Word) : spread v = v ^^^ (v <<< 16) := rfl

/-- The squaring loop of MatPow runs for 64 passes at most (rule R72). -/
theorem matPow_eq (p : Mat) (e : Nat) : matPow p e = matPowLoop 64 e (unity p.n) p := rfl

/-- The squaring loop of powmod runs for 64 passes at most (rule R7). -/
theorem powMod_eq (a e m : Nat) : powMod a e m = powModLoop 64 e (1 % m) (a % m) m := rfl

/-- The MWC output variant after reset is the rotated one (rule R40). -/
theorem reset_mwcComb : State.reset.mwcComb = false := rfl

/-- The KISS that the bootstrap starts from (rule R189). -/
theorem bootSeed_eq : bootSeed = sanKiss ⟨⟨12345, 65435⟩, 12345, 34221⟩ := rfl

section SeedDefaults

/-! The seed values with the defaults of rule R166. -/

theorem seedVal_cong : seedVal .cong s 0 = seedField s.sq 0 0 := rfl
theorem seedVal_shr3 : seedVal .shr3 s 0 = seedField s.sq 0 0xFFFFFFFF := rfl

theorem seedVal_mwc {j : Nat} (h : j < 2) : seedVal .mwc s j = seedField s.sq j 0xFFFFFFFF := by
  interval_cases j <;> rfl

theorem seedVal_mwc64 {j : Nat} (h : j < 2) : seedVal .mwc64 s j = seedField s.sq j 0xFFFFFFFF := by
  interval_cases j <;> rfl

theorem seedVal_lfsr113 {j : Nat} (h : j < 4) : seedVal .lfsr113 s j = seedField s.sq j 0xFFFFFFFF := by
  interval_cases j <;> rfl

theorem seedVal_lfsr88 {j : Nat} (h : j < 3) : seedVal .lfsr88 s j = seedField s.sq j 0xFFFFFFFF := by
  interval_cases j <;> rfl

theorem seedVal_kiss {j : Nat} (h : j < 4) :
    seedVal .kiss s j = seedField s.sq j (if j = 2 then 0 else 0xFFFFFFFF) := by
  interval_cases j <;> rfl

theorem seedVal_kiss2 {j : Nat} (h : j < 4) :
    seedVal .kiss2 s j = seedField s.sq j (if j = 2 then 0 else 0xFFFFFFFF) := by
  interval_cases j <;> rfl

end SeedDefaults

section Lanes

/-! The lane constants of rules R132 and R133. -/

theorem lane113z1_eq : lane113z1 = ⟨0x03FFFFFF, 6, 13, 0xFFFFFFFE, 18, 1⟩ := rfl
theorem lane113z2_eq : lane113z2 = ⟨0x3FFFFFFF, 2, 27, 0xFFFFFFF8, 2, 3⟩ := rfl
theorem lane113z3_eq : lane113z3 = ⟨0x0007FFFF, 13, 21, 0xFFFFFFF0, 7, 4⟩ := rfl
theorem lane113z4_eq : lane113z4 = ⟨0x1FFFFFFF, 3, 12, 0xFFFFFF80, 13, 7⟩ := rfl
theorem lane88z1_eq : lane88z1 = ⟨0x0007FFFF, 13, 19, 0xFFFFFFFE, 12, 1⟩ := rfl
theorem lane88z2_eq : lane88z2 = ⟨0x3FFFFFFF, 2, 25, 0xFFFFFFF8, 4, 3⟩ := rfl
theorem lane88z3_eq : lane88z3 = ⟨0x1FFFFFFF, 3, 11, 0xFFFFFFF0, 17, 4⟩ := rfl

end Lanes

end Machine

end Sys2Proof
end

