-- ==== Sys2Proof/Laws/State.lean ====
section
/-! SUPPORT. What each named update of the state leaves in each field, one lemma per field per update. -/

namespace Sys2Proof.Machine

section
variable (c : Cause) (w : Word) (s : State)

@[simp] theorem raiseFault_fault : (raiseFault c w s).fault = some (s.fault.getD ⟨c, w⟩) := rfl
@[simp] theorem raiseFault_mwcComb : (raiseFault c w s).mwcComb = s.mwcComb := rfl
@[simp] theorem raiseFault_arg0 : (raiseFault c w s).arg0 = s.arg0 := rfl
@[simp] theorem raiseFault_arg1 : (raiseFault c w s).arg1 = s.arg1 := rfl
@[simp] theorem raiseFault_arg2 : (raiseFault c w s).arg2 = s.arg2 := rfl
@[simp] theorem raiseFault_res : (raiseFault c w s).res = s.res := rfl
@[simp] theorem raiseFault_mats : (raiseFault c w s).mats = s.mats := rfl
@[simp] theorem raiseFault_sq : (raiseFault c w s).sq = s.sq := rfl
@[simp] theorem raiseFault_xb : (raiseFault c w s).xb = s.xb := rfl
@[simp] theorem raiseFault_xlen : (raiseFault c w s).xlen = s.xlen := rfl
@[simp] theorem raiseFault_seeded : (raiseFault c w s).seeded = s.seeded := rfl
@[simp] theorem raiseFault_cong : (raiseFault c w s).cong = s.cong := rfl
@[simp] theorem raiseFault_shr3 : (raiseFault c w s).shr3 = s.shr3 := rfl
@[simp] theorem raiseFault_mwc : (raiseFault c w s).mwc = s.mwc := rfl
@[simp] theorem raiseFault_mwc64 : (raiseFault c w s).mwc64 = s.mwc64 := rfl
@[simp] theorem raiseFault_lfsr113 : (raiseFault c w s).lfsr113 = s.lfsr113 := rfl
@[simp] theorem raiseFault_lfsr88 : (raiseFault c w s).lfsr88 = s.lfsr88 := rfl
@[simp] theorem raiseFault_kiss : (raiseFault c w s).kiss = s.kiss := rfl
@[simp] theorem raiseFault_kiss2 : (raiseFault c w s).kiss2 = s.kiss2 := rfl
@[simp] theorem raiseFault_lfib4 : (raiseFault c w s).lfib4 = s.lfib4 := rfl
@[simp] theorem raiseFault_swb : (raiseFault c w s).swb = s.swb := rfl
@[simp] theorem raiseFault_inbox : (raiseFault c w s).inbox = s.inbox := rfl
@[simp] theorem raiseFault_hostData : (raiseFault c w s).hostData = s.hostData := rfl

end

section
variable (s : State)

@[simp] theorem clearFault_fault : (clearFault s).fault = none := rfl
@[simp] theorem clearFault_mwcComb : (clearFault s).mwcComb = s.mwcComb := rfl
@[simp] theorem clearFault_arg0 : (clearFault s).arg0 = s.arg0 := rfl
@[simp] theorem clearFault_arg1 : (clearFault s).arg1 = s.arg1 := rfl
@[simp] theorem clearFault_arg2 : (clearFault s).arg2 = s.arg2 := rfl
@[simp] theorem clearFault_res : (clearFault s).res = s.res := rfl
@[simp] theorem clearFault_mats : (clearFault s).mats = s.mats := rfl
@[simp] theorem clearFault_sq : (clearFault s).sq = s.sq := rfl
@[simp] theorem clearFault_xb : (clearFault s).xb = s.xb := rfl
@[simp] theorem clearFault_xlen : (clearFault s).xlen = s.xlen := rfl
@[simp] theorem clearFault_seeded : (clearFault s).seeded = s.seeded := rfl
@[simp] theorem clearFault_cong : (clearFault s).cong = s.cong := rfl
@[simp] theorem clearFault_shr3 : (clearFault s).shr3 = s.shr3 := rfl
@[simp] theorem clearFault_mwc : (clearFault s).mwc = s.mwc := rfl
@[simp] theorem clearFault_mwc64 : (clearFault s).mwc64 = s.mwc64 := rfl
@[simp] theorem clearFault_lfsr113 : (clearFault s).lfsr113 = s.lfsr113 := rfl
@[simp] theorem clearFault_lfsr88 : (clearFault s).lfsr88 = s.lfsr88 := rfl
@[simp] theorem clearFault_kiss : (clearFault s).kiss = s.kiss := rfl
@[simp] theorem clearFault_kiss2 : (clearFault s).kiss2 = s.kiss2 := rfl
@[simp] theorem clearFault_lfib4 : (clearFault s).lfib4 = s.lfib4 := rfl
@[simp] theorem clearFault_swb : (clearFault s).swb = s.swb := rfl
@[simp] theorem clearFault_inbox : (clearFault s).inbox = s.inbox := rfl
@[simp] theorem clearFault_hostData : (clearFault s).hostData = s.hostData := rfl

end

section
variable (u : UnitId) (s : State)

@[simp] theorem markSeeded_fault : (markSeeded u s).fault = s.fault := rfl
@[simp] theorem markSeeded_mwcComb : (markSeeded u s).mwcComb = s.mwcComb := rfl
@[simp] theorem markSeeded_arg0 : (markSeeded u s).arg0 = s.arg0 := rfl
@[simp] theorem markSeeded_arg1 : (markSeeded u s).arg1 = s.arg1 := rfl
@[simp] theorem markSeeded_arg2 : (markSeeded u s).arg2 = s.arg2 := rfl
@[simp] theorem markSeeded_res : (markSeeded u s).res = s.res := rfl
@[simp] theorem markSeeded_mats : (markSeeded u s).mats = s.mats := rfl
@[simp] theorem markSeeded_sq : (markSeeded u s).sq = [] := rfl
@[simp] theorem markSeeded_xb : (markSeeded u s).xb = s.xb := rfl
@[simp] theorem markSeeded_xlen : (markSeeded u s).xlen = s.xlen := rfl
@[simp] theorem markSeeded_seeded : (markSeeded u s).seeded = s.seeded.set (unitIndex u) true := rfl
@[simp] theorem markSeeded_cong : (markSeeded u s).cong = s.cong := rfl
@[simp] theorem markSeeded_shr3 : (markSeeded u s).shr3 = s.shr3 := rfl
@[simp] theorem markSeeded_mwc : (markSeeded u s).mwc = s.mwc := rfl
@[simp] theorem markSeeded_mwc64 : (markSeeded u s).mwc64 = s.mwc64 := rfl
@[simp] theorem markSeeded_lfsr113 : (markSeeded u s).lfsr113 = s.lfsr113 := rfl
@[simp] theorem markSeeded_lfsr88 : (markSeeded u s).lfsr88 = s.lfsr88 := rfl
@[simp] theorem markSeeded_kiss : (markSeeded u s).kiss = s.kiss := rfl
@[simp] theorem markSeeded_kiss2 : (markSeeded u s).kiss2 = s.kiss2 := rfl
@[simp] theorem markSeeded_lfib4 : (markSeeded u s).lfib4 = s.lfib4 := rfl
@[simp] theorem markSeeded_swb : (markSeeded u s).swb = s.swb := rfl
@[simp] theorem markSeeded_inbox : (markSeeded u s).inbox = s.inbox := rfl
@[simp] theorem markSeeded_hostData : (markSeeded u s).hostData = s.hostData := rfl

end

section
variable (r : MReg) (m : Mat) (s : State)

@[simp] theorem setMat_fault : (setMat r m s).fault = s.fault := rfl
@[simp] theorem setMat_mwcComb : (setMat r m s).mwcComb = s.mwcComb := rfl
@[simp] theorem setMat_arg0 : (setMat r m s).arg0 = s.arg0 := rfl
@[simp] theorem setMat_arg1 : (setMat r m s).arg1 = s.arg1 := rfl
@[simp] theorem setMat_arg2 : (setMat r m s).arg2 = s.arg2 := rfl
@[simp] theorem setMat_res : (setMat r m s).res = s.res := rfl
@[simp] theorem setMat_mats : (setMat r m s).mats = s.mats.set r m := rfl
@[simp] theorem setMat_sq : (setMat r m s).sq = s.sq := rfl
@[simp] theorem setMat_xb : (setMat r m s).xb = s.xb := rfl
@[simp] theorem setMat_xlen : (setMat r m s).xlen = s.xlen := rfl
@[simp] theorem setMat_seeded : (setMat r m s).seeded = s.seeded := rfl
@[simp] theorem setMat_cong : (setMat r m s).cong = s.cong := rfl
@[simp] theorem setMat_shr3 : (setMat r m s).shr3 = s.shr3 := rfl
@[simp] theorem setMat_mwc : (setMat r m s).mwc = s.mwc := rfl
@[simp] theorem setMat_mwc64 : (setMat r m s).mwc64 = s.mwc64 := rfl
@[simp] theorem setMat_lfsr113 : (setMat r m s).lfsr113 = s.lfsr113 := rfl
@[simp] theorem setMat_lfsr88 : (setMat r m s).lfsr88 = s.lfsr88 := rfl
@[simp] theorem setMat_kiss : (setMat r m s).kiss = s.kiss := rfl
@[simp] theorem setMat_kiss2 : (setMat r m s).kiss2 = s.kiss2 := rfl
@[simp] theorem setMat_lfib4 : (setMat r m s).lfib4 = s.lfib4 := rfl
@[simp] theorem setMat_swb : (setMat r m s).swb = s.swb := rfl
@[simp] theorem setMat_inbox : (setMat r m s).inbox = s.inbox := rfl
@[simp] theorem setMat_hostData : (setMat r m s).hostData = s.hostData := rfl

end

section
variable (l : List Word) (s : State)

@[simp] theorem putXb_fault : (putXb l s).fault = s.fault := rfl
@[simp] theorem putXb_mwcComb : (putXb l s).mwcComb = s.mwcComb := rfl
@[simp] theorem putXb_arg0 : (putXb l s).arg0 = s.arg0 := rfl
@[simp] theorem putXb_arg1 : (putXb l s).arg1 = s.arg1 := rfl
@[simp] theorem putXb_arg2 : (putXb l s).arg2 = s.arg2 := rfl
@[simp] theorem putXb_res : (putXb l s).res = s.res := rfl
@[simp] theorem putXb_mats : (putXb l s).mats = s.mats := rfl
@[simp] theorem putXb_sq : (putXb l s).sq = s.sq := rfl
@[simp] theorem putXb_xb : (putXb l s).xb = Table.tab Config.xbLen fun i => l.getD i 0 := rfl
@[simp] theorem putXb_xlen : (putXb l s).xlen = l.length := rfl
@[simp] theorem putXb_seeded : (putXb l s).seeded = s.seeded := rfl
@[simp] theorem putXb_cong : (putXb l s).cong = s.cong := rfl
@[simp] theorem putXb_shr3 : (putXb l s).shr3 = s.shr3 := rfl
@[simp] theorem putXb_mwc : (putXb l s).mwc = s.mwc := rfl
@[simp] theorem putXb_mwc64 : (putXb l s).mwc64 = s.mwc64 := rfl
@[simp] theorem putXb_lfsr113 : (putXb l s).lfsr113 = s.lfsr113 := rfl
@[simp] theorem putXb_lfsr88 : (putXb l s).lfsr88 = s.lfsr88 := rfl
@[simp] theorem putXb_kiss : (putXb l s).kiss = s.kiss := rfl
@[simp] theorem putXb_kiss2 : (putXb l s).kiss2 = s.kiss2 := rfl
@[simp] theorem putXb_lfib4 : (putXb l s).lfib4 = s.lfib4 := rfl
@[simp] theorem putXb_swb : (putXb l s).swb = s.swb := rfl
@[simp] theorem putXb_inbox : (putXb l s).inbox = s.inbox := rfl
@[simp] theorem putXb_hostData : (putXb l s).hostData = s.hostData := rfl

end

section
variable (s : State)

@[simp] theorem resetEngine_fault : (resetEngine s).fault = State.reset.fault := rfl
@[simp] theorem resetEngine_mwcComb : (resetEngine s).mwcComb = State.reset.mwcComb := rfl
@[simp] theorem resetEngine_arg0 : (resetEngine s).arg0 = State.reset.arg0 := rfl
@[simp] theorem resetEngine_arg1 : (resetEngine s).arg1 = State.reset.arg1 := rfl
@[simp] theorem resetEngine_arg2 : (resetEngine s).arg2 = State.reset.arg2 := rfl
@[simp] theorem resetEngine_res : (resetEngine s).res = State.reset.res := rfl
@[simp] theorem resetEngine_mats : (resetEngine s).mats = State.reset.mats := rfl
@[simp] theorem resetEngine_sq : (resetEngine s).sq = State.reset.sq := rfl
@[simp] theorem resetEngine_xb : (resetEngine s).xb = State.reset.xb := rfl
@[simp] theorem resetEngine_xlen : (resetEngine s).xlen = State.reset.xlen := rfl
@[simp] theorem resetEngine_seeded : (resetEngine s).seeded = State.reset.seeded := rfl
@[simp] theorem resetEngine_cong : (resetEngine s).cong = State.reset.cong := rfl
@[simp] theorem resetEngine_shr3 : (resetEngine s).shr3 = State.reset.shr3 := rfl
@[simp] theorem resetEngine_mwc : (resetEngine s).mwc = State.reset.mwc := rfl
@[simp] theorem resetEngine_mwc64 : (resetEngine s).mwc64 = State.reset.mwc64 := rfl
@[simp] theorem resetEngine_lfsr113 : (resetEngine s).lfsr113 = State.reset.lfsr113 := rfl
@[simp] theorem resetEngine_lfsr88 : (resetEngine s).lfsr88 = State.reset.lfsr88 := rfl
@[simp] theorem resetEngine_kiss : (resetEngine s).kiss = State.reset.kiss := rfl
@[simp] theorem resetEngine_kiss2 : (resetEngine s).kiss2 = State.reset.kiss2 := rfl
@[simp] theorem resetEngine_lfib4 : (resetEngine s).lfib4 = State.reset.lfib4 := rfl
@[simp] theorem resetEngine_swb : (resetEngine s).swb = State.reset.swb := rfl
@[simp] theorem resetEngine_inbox : (resetEngine s).inbox = s.inbox := rfl
@[simp] theorem resetEngine_hostData : (resetEngine s).hostData = s.hostData := rfl

end

section
variable (w : Word) (s : State)

@[simp] theorem pushCmdWrite_fault : (pushCmdWrite w s).fault = s.fault := rfl
@[simp] theorem pushCmdWrite_mwcComb : (pushCmdWrite w s).mwcComb = s.mwcComb := rfl
@[simp] theorem pushCmdWrite_arg0 : (pushCmdWrite w s).arg0 = s.arg0 := rfl
@[simp] theorem pushCmdWrite_arg1 : (pushCmdWrite w s).arg1 = s.arg1 := rfl
@[simp] theorem pushCmdWrite_arg2 : (pushCmdWrite w s).arg2 = s.arg2 := rfl
@[simp] theorem pushCmdWrite_res : (pushCmdWrite w s).res = s.res := rfl
@[simp] theorem pushCmdWrite_mats : (pushCmdWrite w s).mats = s.mats := rfl
@[simp] theorem pushCmdWrite_sq : (pushCmdWrite w s).sq = s.sq := rfl
@[simp] theorem pushCmdWrite_xb : (pushCmdWrite w s).xb = s.xb := rfl
@[simp] theorem pushCmdWrite_xlen : (pushCmdWrite w s).xlen = s.xlen := rfl
@[simp] theorem pushCmdWrite_seeded : (pushCmdWrite w s).seeded = s.seeded := rfl
@[simp] theorem pushCmdWrite_cong : (pushCmdWrite w s).cong = s.cong := rfl
@[simp] theorem pushCmdWrite_shr3 : (pushCmdWrite w s).shr3 = s.shr3 := rfl
@[simp] theorem pushCmdWrite_mwc : (pushCmdWrite w s).mwc = s.mwc := rfl
@[simp] theorem pushCmdWrite_mwc64 : (pushCmdWrite w s).mwc64 = s.mwc64 := rfl
@[simp] theorem pushCmdWrite_lfsr113 : (pushCmdWrite w s).lfsr113 = s.lfsr113 := rfl
@[simp] theorem pushCmdWrite_lfsr88 : (pushCmdWrite w s).lfsr88 = s.lfsr88 := rfl
@[simp] theorem pushCmdWrite_kiss : (pushCmdWrite w s).kiss = s.kiss := rfl
@[simp] theorem pushCmdWrite_kiss2 : (pushCmdWrite w s).kiss2 = s.kiss2 := rfl
@[simp] theorem pushCmdWrite_lfib4 : (pushCmdWrite w s).lfib4 = s.lfib4 := rfl
@[simp] theorem pushCmdWrite_swb : (pushCmdWrite w s).swb = s.swb := rfl
@[simp] theorem pushCmdWrite_inbox : (pushCmdWrite w s).inbox = .write 0 w :: s.inbox := rfl
@[simp] theorem pushCmdWrite_hostData : (pushCmdWrite w s).hostData = s.hostData := rfl

end

end Sys2Proof.Machine
end

