-- ==== Sys2Proof/Laws/Table.lean ====
section
/-! SUPPORT. What reading a table finds after each way of making one. -/

namespace Sys2Proof

theorem getElem_listFrom {α : Type} (f : Nat → α) (i k j : Nat) (h : j < (listFrom f i k).length) :
    (listFrom f i k)[j] = f (i + j) := by
  induction k generalizing i j with
  | zero => simp [listFrom] at h
  | succ k ih =>
    cases j with
    | zero => simp [listFrom]
    | succ j =>
      simp only [listFrom, List.getElem_cons_succ]
      rw [ih]
      congr 1
      omega

variable {α : Type} {n : Nat}

@[simp] theorem Table.get_tab (f : Nat → α) (i : Fin n) : (Table.tab n f).get i = f i.val := by
  simp [Table.get, Table.tab, getElem_listFrom]

@[simp] theorem Table.get_fill (a : α) (i : Fin n) : (Table.fill n a).get i = a := by
  simp [Table.fill]

@[simp] theorem Table.get_set_self (t : Table α n) (i : Fin n) (a : α) : (t.set i a).get i = a := by
  simp [Table.get, Table.set]

theorem Table.get_set_of_ne (t : Table α n) {i j : Fin n} (a : α) (h : i ≠ j) :
    (t.set i a).get j = t.get j := by
  have : i.val ≠ j.val := fun e => h (Fin.ext e)
  simp [Table.get, Table.set, List.getElem_set_of_ne this]

theorem Table.get_set (t : Table α n) (i j : Fin n) (a : α) :
    (t.set i a).get j = if i = j then a else t.get j := by
  split
  · next h => rw [h, Table.get_set_self]
  · next h => exact t.get_set_of_ne a h

theorem Table.get_eq_getD (t : Table α n) (i : Fin n) (d : α) : t.get i = t.toList.getD i.val d := by
  have h : i.val < t.toList.length := by rw [t.length_toList]; exact i.isLt
  simp [Table.get, List.getD_eq_getElem?_getD, List.getElem?_eq_getElem h]

/-- Two tables with equal entries are equal. -/
theorem Table.ext_get {t u : Table α n} (h : ∀ i : Fin n, t.get i = u.get i) : t = u := by
  cases t with
  | mk l hl =>
    cases u with
    | mk m hm =>
      have : l = m := by
        apply List.ext_getElem (hl.trans hm.symm)
        intro i h1 h2
        exact h ⟨i, hl ▸ h1⟩
      subst this
      rfl

end Sys2Proof
end

