-- ==== Sys2Proof/Laws/Ops.lean ====
section
/-! SUPPORT. Everything each shared operation can do: one lemma per operation, which a proof cites in place
of unfolding it. -/

namespace Sys2Proof.Machine

/-- Fault entry without a record standing (rule R214). -/
theorem raiseFault_of_none (c : Cause) (w : Word) {s : State} (h : s.fault = none) :
    raiseFault c w s = { s with fault := some ⟨c, w⟩ } := by
  simp [raiseFault, h]

/-- Fault entry while a record stands changes nothing (rules R53, R215). -/
theorem raiseFault_of_some (c : Cause) (w : Word) {s : State} {r : FaultRecord} (h : s.fault = some r) :
    raiseFault c w s = s := by
  cases s
  simp_all [raiseFault]

theorem trap_next {c : Cause} {i : Instr} {s t : State} (h : trap c i s = .next t) :
    t = raiseFault c (encode i) s := by
  cases h; rfl

/-- A command on a unit: its effect on a seeded unit, E_UNSEEDED on an unseeded one. -/
theorem needSeeded_next {u : UnitId} {i : Instr} {s done t : State} (h : needSeeded u i s done = .next t) :
    (s.isSeeded u = true ∧ t = done) ∨ (s.isSeeded u = false ∧ t = raiseFault .unseeded (encode i) s) := by
  unfold needSeeded at h
  split at h
  · next hs => cases h; exact .inl ⟨hs, rfl⟩
  · next hs => exact .inr ⟨by simpa using hs, trap_next h⟩

/-- A command on the tuple in SQ: its effect on a queue of exactly `k` limbs, else E_SEEDLEN. -/
theorem withStateVals_next {k : Nat} {i : Instr} {s t : State} {done : Table Word k → State}
    (h : withStateVals k i s done = .next t) :
    (∃ v, stateVals k s.sq = some v ∧ t = done v) ∨
      (stateVals k s.sq = none ∧ t = raiseFault .seedLen (encode i) s) := by
  unfold withStateVals at h
  split at h
  · next hs => exact .inr ⟨hs, trap_next h⟩
  · next v hs => cases h; exact .inl ⟨v, hs, rfl⟩

/-- A push: all the entries where they fit, else E_SQFULL. -/
theorem pushEntries_next {l : List SqEntry} {i : Instr} {s t : State} (h : pushEntries l i s = .next t) :
    (s.sq.length + l.length ≤ Config.sqDepth ∧ t = { s with sq := s.sq ++ l }) ∨
      (Config.sqDepth < s.sq.length + l.length ∧ t = raiseFault .sqFull (encode i) s) := by
  unfold pushEntries at h
  split at h
  · next hs => exact .inr ⟨hs, trap_next h⟩
  · next hs => cases h; exact .inl ⟨Nat.le_of_not_lt hs, rfl⟩

/-- A matrix constructor: the register written for a legal width, else E_RANGE. -/
theorem buildMat_next {md : MReg} {i : Instr} {m : Mat} {s t : State} (h : buildMat md i m s = .next t) :
    (legalWidth (widthOperand s) = true ∧ t = setMat md m s) ∨
      (legalWidth (widthOperand s) = false ∧ t = raiseFault .range (encode i) s) := by
  unfold buildMat at h
  split at h
  · next hs => cases h; exact .inl ⟨hs, rfl⟩
  · next hs => exact .inr ⟨by simpa using hs, trap_next h⟩

/-- A command of two matrix sources: E_EMPTY, else E_WIDTH, else the destination written. -/
theorem combineMats_next {md ms1 ms2 : MReg} {i : Instr} {f : Mat → Mat → Mat} {s t : State}
    (h : combineMats md ms1 ms2 i f s = .next t) :
    (((s.mat ms1).n = 0 ∨ (s.mat ms2).n = 0) ∧ t = raiseFault .empty (encode i) s) ∨
      ((s.mat ms1).n ≠ 0 ∧ (s.mat ms2).n ≠ 0 ∧ (s.mat ms1).n ≠ (s.mat ms2).n ∧
        t = raiseFault .width (encode i) s) ∨
      ((s.mat ms1).n ≠ 0 ∧ (s.mat ms1).n = (s.mat ms2).n ∧
        t = setMat md (f (s.mat ms1) (s.mat ms2)) s) := by
  simp only [combineMats] at h
  split at h
  · next hs => exact .inl ⟨hs, trap_next h⟩
  · next hs =>
    rw [not_or] at hs
    split at h
    · next hw => exact .inr (.inl ⟨hs.1, hs.2, hw, trap_next h⟩)
    · next hw => cases h; exact .inr (.inr ⟨hs.1, not_not.mp hw, rfl⟩)

/-- SEED of a ring unit: E_UNSUP with X, else E_SEEDLEN, else the ring loaded. -/
theorem seedRingUnit_next {x : Bool} {i : Instr} {s t : State} {done : Table Word Config.ring → State}
    (h : seedRingUnit x i s done = .next t) :
    (x = true ∧ t = raiseFault .unsup (encode i) s) ∨
      (x = false ∧ seedRing s.sq = none ∧ t = raiseFault .seedLen (encode i) s) ∨
      (x = false ∧ ∃ b, seedRing s.sq = some b ∧ t = done b) := by
  unfold seedRingUnit at h
  split at h
  · next hx => exact .inl ⟨hx, trap_next h⟩
  · next hx =>
    have hx : x = false := by simpa using hx
    split at h
    · next hr => exact .inr (.inl ⟨hx, hr, trap_next h⟩)
    · next b hr => cases h; exact .inr (.inr ⟨hx, b, hr, rfl⟩)

/-- A queue read as `k` limbs: exactly when it is the limbs of a list of that length. -/
theorem allLimbs_eq_some {q : List SqEntry} {l : List Word} :
    allLimbs q = some l ↔ q = l.map .limb := by
  induction q generalizing l with
  | nil => cases l <;> simp [allLimbs]
  | cons e q ih =>
    cases e with
    | absent => cases l <;> simp [allLimbs]
    | limb w =>
      cases l with
      | nil => simp [allLimbs]
      | cons v l => simp [allLimbs, ih, and_comm]

theorem stateVals_eq_some {k : Nat} {q : List SqEntry} {v : Table Word k} :
    stateVals k q = some v ↔ q = v.toList.map .limb := by
  unfold stateVals
  constructor
  · intro h
    split at h
    · cases h
    · next l hl =>
      split at h
      · cases h; exact allLimbs_eq_some.mp hl
      · cases h
  · intro h
    rw [allLimbs_eq_some.mpr h]
    simp [v.length_toList]

/-- Reading a matrix register after one is written. -/
theorem mat_setMat (s : State) (r r' : MReg) (m : Mat) :
    (setMat r m s).mat r' = if r = r' then m else s.mat r' :=
  Table.get_set s.mats r r' m

theorem unitIndex_injective {u v : UnitId} (h : unitIndex u = unitIndex v) : u = v := by
  revert h; cases u <;> cases v <;> decide

/-- Reading a valid bit after one is set. -/
theorem isSeeded_markSeeded (s : State) (u v : UnitId) :
    (markSeeded u s).isSeeded v = (decide (u = v) || s.isSeeded v) := by
  unfold State.isSeeded
  rw [markSeeded_seeded, Table.get_set]
  by_cases h : u = v
  · simp [h]
  · have : unitIndex u ≠ unitIndex v := fun e => h (unitIndex_injective e)
    simp [h, this]

/-- A write to CMD: dropped, illegal, or one command. -/
theorem writeCmd_next {w : Word} {s t : State} (h : writeCmd w s = .next t) :
    (dropped w s = true ∧ t = s) ∨
      (dropped w s = false ∧ (∃ e, decode w = .error e) ∧ t = raiseFault .illegal w s) ∨
      (dropped w s = false ∧ ∃ i, decode w = .ok i ∧ exec i s = .next t) := by
  unfold writeCmd at h
  split at h
  · next hd => cases h; exact .inl ⟨hd, rfl⟩
  · next hd =>
    have hd : dropped w s = false := by simpa using hd
    split at h
    · next e he => cases h; exact .inr (.inl ⟨hd, ⟨e, he⟩, rfl⟩)
    · next i hi => exact .inr (.inr ⟨hd, i, hi, h⟩)

/-- A host read: a mapped register's word, or 0 and a bus fault. -/
theorem hostRead_next {addr : BitVec 10} {s t : State} (h : hostRead addr s = .next t) :
    (∃ v, portRead s addr = some v ∧ t = { s with hostData := v }) ∨
      (portRead s addr = none ∧ t = { busFault false addr s with hostData := 0 }) := by
  unfold hostRead at h
  split at h
  · next v hv => cases h; exact .inl ⟨v, hv, rfl⟩
  · next hv => cases h; exact .inr ⟨hv, rfl⟩

/-- A host write: a command, a register, or a bus fault. -/
theorem hostWrite_next {addr : BitVec 10} {v : Word} {s t : State} (h : hostWrite addr v s = .next t) :
    (addr = 0 ∧ writeCmd v s = .next t) ∨ (addr = 3 ∧ t = { s with mwcComb := v.getLsbD 0 }) ∨
      (addr = 4 ∧ t = { s with arg0 := v }) ∨ (addr = 5 ∧ t = { s with arg1 := v }) ∨
      (addr = 6 ∧ t = { s with arg2 := v }) ∨ t = busFault true addr s := by
  unfold hostWrite at h
  split at h
  · next ha => exact .inl ⟨BitVec.eq_of_toNat_eq ha, h⟩
  · next ha => cases h; exact .inr (.inl ⟨BitVec.eq_of_toNat_eq ha, rfl⟩)
  · next ha => cases h; exact .inr (.inr (.inl ⟨BitVec.eq_of_toNat_eq ha, rfl⟩))
  · next ha => cases h; exact .inr (.inr (.inr (.inl ⟨BitVec.eq_of_toNat_eq ha, rfl⟩)))
  · next ha => cases h; exact .inr (.inr (.inr (.inr (.inl ⟨BitVec.eq_of_toNat_eq ha, rfl⟩))))
  · cases h; exact .inr (.inr (.inr (.inr (.inr rfl))))

/-- A step: waiting, or the host's next event. -/
theorem step_next {s t : State} (h : step s = .next t) :
    (s.inbox = [] ∧ t = s) ∨ ∃ e rest, s.inbox = e :: rest ∧ hostEvent e { s with inbox := rest } = .next t := by
  unfold step takeEvent at h
  split at h
  · next hi => cases h; exact .inl ⟨hi, rfl⟩
  · next e rest hi => exact .inr ⟨e, rest, hi, h⟩

/-- The columns of a matrix made from a function. -/
theorem column_matOf (n : Nat) (f : Nat → Word) (i : Nat) :
    (matOf n f).column i = if i < n ∧ i < Config.nMax then f i else 0 := by
  unfold Mat.column matOf
  by_cases hi : i < Config.nMax
  · have := Table.get_tab (n := Config.nMax) (fun i => if i < n then f i else 0) ⟨i, hi⟩
    rw [Table.get_eq_getD _ _ 0] at this
    simp only [this, hi, and_true]
  · have hl : (Table.tab Config.nMax fun i => if i < n then f i else 0).toList.length ≤ i := by
      rw [Table.length_toList]; omega
    rw [List.getD_eq_getElem?_getD, List.getElem?_eq_none hl]
    simp [hi]

/-- A word of the exchange buffer after words are put into it. -/
theorem get_putXb (l : List Word) (s : State) (i : Fin Config.xbLen) :
    (putXb l s).xb.get i = l.getD i.val 0 :=
  Table.get_tab _ i

/-- Putting at most 257 words into the exchange buffer leaves it in its one form: zeros from XLEN on. -/
theorem xbOk_putXb {l : List Word} (s : State) (h : l.length ≤ Config.xbLen) : xbOk (putXb l s) := by
  refine ⟨h, fun i hi => ?_⟩
  rw [get_putXb, List.getD_eq_getElem?_getD, List.getElem?_eq_none hi]
  rfl

end Sys2Proof.Machine
end

