-- ==== Sys2Proof/Laws/PerInstr.lean ====
section
/-! SUPPORT. What holds of every command as syntax, one lemma a constructor: its word is a legal encoding by
rule R61, said of the word's fields and not of the decoder. -/

namespace Sys2Proof.Laws

set_option Elab.async false

/-- The word of the command is a legal command word (rule R61). -/
def LegalEncoding.Statement (i : Instr) : Prop :=
  (CmdFields.ofWord (encode i)).legal = true

theorem LegalEncoding.nop : LegalEncoding.Statement .nop := by
  unfold LegalEncoding.Statement; decide +kernel

theorem LegalEncoding.clrf : LegalEncoding.Statement .clrf := by
  unfold LegalEncoding.Statement; decide +kernel

theorem LegalEncoding.rst : LegalEncoding.Statement .rst := by
  unfold LegalEncoding.Statement; decide +kernel

theorem LegalEncoding.sqclr : LegalEncoding.Statement .sqclr := by
  unfold LegalEncoding.Statement; decide +kernel

theorem LegalEncoding.sqpush : LegalEncoding.Statement .sqpush := by
  unfold LegalEncoding.Statement; decide +kernel

theorem LegalEncoding.sqpusha : LegalEncoding.Statement .sqpusha := by
  unfold LegalEncoding.Statement; decide +kernel

theorem LegalEncoding.sqpushw : LegalEncoding.Statement .sqpushw := by
  unfold LegalEncoding.Statement; decide +kernel

theorem LegalEncoding.sqpushx : LegalEncoding.Statement .sqpushx := by
  unfold LegalEncoding.Statement; decide +kernel

theorem LegalEncoding.munity (md : MReg) : LegalEncoding.Statement (.munity md) := by
  unfold LegalEncoding.Statement; revert md; decide +kernel

theorem LegalEncoding.mshift (md : MReg) : LegalEncoding.Statement (.mshift md) := by
  unfold LegalEncoding.Statement; revert md; decide +kernel

theorem LegalEncoding.mmask (md : MReg) : LegalEncoding.Statement (.mmask md) := by
  unfold LegalEncoding.Statement; revert md; decide +kernel

theorem LegalEncoding.madd (md ms1 ms2 : MReg) : LegalEncoding.Statement (.madd md ms1 ms2) := by
  unfold LegalEncoding.Statement; revert md ms1 ms2; decide +kernel

theorem LegalEncoding.mvmul (ms1 : MReg) : LegalEncoding.Statement (.mvmul ms1) := by
  unfold LegalEncoding.Statement; revert ms1; decide +kernel

theorem LegalEncoding.mmul (md ms1 ms2 : MReg) : LegalEncoding.Statement (.mmul md ms1 ms2) := by
  unfold LegalEncoding.Statement; revert md ms1 ms2; decide +kernel

theorem LegalEncoding.mpow (md ms1 : MReg) : LegalEncoding.Statement (.mpow md ms1) := by
  unfold LegalEncoding.Statement; revert md ms1; decide +kernel

theorem LegalEncoding.mrom (md : MReg) (k : RomIndex) : LegalEncoding.Statement (.mrom md k) := by
  unfold LegalEncoding.Statement; revert md k; decide +kernel

theorem LegalEncoding.mget (ms1 : MReg) : LegalEncoding.Statement (.mget ms1) := by
  unfold LegalEncoding.Statement; revert ms1; decide +kernel

theorem LegalEncoding.msetcol (md : MReg) : LegalEncoding.Statement (.msetcol md) := by
  unfold LegalEncoding.Statement; revert md; decide +kernel

theorem LegalEncoding.seedCong (x : Bool) : LegalEncoding.Statement (.seedCong x) := by
  unfold LegalEncoding.Statement; revert x; decide +kernel

theorem LegalEncoding.seedShr3 (x : Bool) : LegalEncoding.Statement (.seedShr3 x) := by
  unfold LegalEncoding.Statement; revert x; decide +kernel

theorem LegalEncoding.seedMwc (x : Bool) : LegalEncoding.Statement (.seedMwc x) := by
  unfold LegalEncoding.Statement; revert x; decide +kernel

theorem LegalEncoding.seedMwc64 (x : Bool) : LegalEncoding.Statement (.seedMwc64 x) := by
  unfold LegalEncoding.Statement; revert x; decide +kernel

theorem LegalEncoding.seedLfsr113 (x : Bool) : LegalEncoding.Statement (.seedLfsr113 x) := by
  unfold LegalEncoding.Statement; revert x; decide +kernel

theorem LegalEncoding.seedLfsr88 (x : Bool) : LegalEncoding.Statement (.seedLfsr88 x) := by
  unfold LegalEncoding.Statement; revert x; decide +kernel

theorem LegalEncoding.seedKiss (x : Bool) : LegalEncoding.Statement (.seedKiss x) := by
  unfold LegalEncoding.Statement; revert x; decide +kernel

theorem LegalEncoding.seedKiss2 (x : Bool) : LegalEncoding.Statement (.seedKiss2 x) := by
  unfold LegalEncoding.Statement; revert x; decide +kernel

theorem LegalEncoding.seedLfib4 (x : Bool) : LegalEncoding.Statement (.seedLfib4 x) := by
  unfold LegalEncoding.Statement; revert x; decide +kernel

theorem LegalEncoding.seedSwb (x : Bool) : LegalEncoding.Statement (.seedSwb x) := by
  unfold LegalEncoding.Statement; revert x; decide +kernel

theorem LegalEncoding.advCong : LegalEncoding.Statement .advCong := by
  unfold LegalEncoding.Statement; decide +kernel

theorem LegalEncoding.advShr3 : LegalEncoding.Statement .advShr3 := by
  unfold LegalEncoding.Statement; decide +kernel

theorem LegalEncoding.advMwc : LegalEncoding.Statement .advMwc := by
  unfold LegalEncoding.Statement; decide +kernel

theorem LegalEncoding.advMwc64 : LegalEncoding.Statement .advMwc64 := by
  unfold LegalEncoding.Statement; decide +kernel

theorem LegalEncoding.advLfsr113 : LegalEncoding.Statement .advLfsr113 := by
  unfold LegalEncoding.Statement; decide +kernel

theorem LegalEncoding.advLfsr88 : LegalEncoding.Statement .advLfsr88 := by
  unfold LegalEncoding.Statement; decide +kernel

theorem LegalEncoding.advKiss : LegalEncoding.Statement .advKiss := by
  unfold LegalEncoding.Statement; decide +kernel

theorem LegalEncoding.advKiss2 : LegalEncoding.Statement .advKiss2 := by
  unfold LegalEncoding.Statement; decide +kernel

theorem LegalEncoding.advLfib4 : LegalEncoding.Statement .advLfib4 := by
  unfold LegalEncoding.Statement; decide +kernel

theorem LegalEncoding.advSwb : LegalEncoding.Statement .advSwb := by
  unfold LegalEncoding.Statement; decide +kernel

theorem LegalEncoding.curCong : LegalEncoding.Statement .curCong := by
  unfold LegalEncoding.Statement; decide +kernel

theorem LegalEncoding.curShr3 : LegalEncoding.Statement .curShr3 := by
  unfold LegalEncoding.Statement; decide +kernel

theorem LegalEncoding.curMwc : LegalEncoding.Statement .curMwc := by
  unfold LegalEncoding.Statement; decide +kernel

theorem LegalEncoding.curMwc64 : LegalEncoding.Statement .curMwc64 := by
  unfold LegalEncoding.Statement; decide +kernel

theorem LegalEncoding.curLfsr113 : LegalEncoding.Statement .curLfsr113 := by
  unfold LegalEncoding.Statement; decide +kernel

theorem LegalEncoding.curLfsr88 : LegalEncoding.Statement .curLfsr88 := by
  unfold LegalEncoding.Statement; decide +kernel

theorem LegalEncoding.curKiss : LegalEncoding.Statement .curKiss := by
  unfold LegalEncoding.Statement; decide +kernel

theorem LegalEncoding.curKiss2 : LegalEncoding.Statement .curKiss2 := by
  unfold LegalEncoding.Statement; decide +kernel

theorem LegalEncoding.curLfib4 : LegalEncoding.Statement .curLfib4 := by
  unfold LegalEncoding.Statement; decide +kernel

theorem LegalEncoding.curSwb : LegalEncoding.Statement .curSwb := by
  unfold LegalEncoding.Statement; decide +kernel

theorem LegalEncoding.getstCong : LegalEncoding.Statement .getstCong := by
  unfold LegalEncoding.Statement; decide +kernel

theorem LegalEncoding.getstShr3 : LegalEncoding.Statement .getstShr3 := by
  unfold LegalEncoding.Statement; decide +kernel

theorem LegalEncoding.getstMwc : LegalEncoding.Statement .getstMwc := by
  unfold LegalEncoding.Statement; decide +kernel

theorem LegalEncoding.getstMwc64 : LegalEncoding.Statement .getstMwc64 := by
  unfold LegalEncoding.Statement; decide +kernel

theorem LegalEncoding.getstLfsr113 : LegalEncoding.Statement .getstLfsr113 := by
  unfold LegalEncoding.Statement; decide +kernel

theorem LegalEncoding.getstLfsr88 : LegalEncoding.Statement .getstLfsr88 := by
  unfold LegalEncoding.Statement; decide +kernel

theorem LegalEncoding.getstKiss : LegalEncoding.Statement .getstKiss := by
  unfold LegalEncoding.Statement; decide +kernel

theorem LegalEncoding.getstKiss2 : LegalEncoding.Statement .getstKiss2 := by
  unfold LegalEncoding.Statement; decide +kernel

theorem LegalEncoding.getstLfib4 : LegalEncoding.Statement .getstLfib4 := by
  unfold LegalEncoding.Statement; decide +kernel

theorem LegalEncoding.getstSwb : LegalEncoding.Statement .getstSwb := by
  unfold LegalEncoding.Statement; decide +kernel

theorem LegalEncoding.setstCong : LegalEncoding.Statement .setstCong := by
  unfold LegalEncoding.Statement; decide +kernel

theorem LegalEncoding.setstShr3 : LegalEncoding.Statement .setstShr3 := by
  unfold LegalEncoding.Statement; decide +kernel

theorem LegalEncoding.setstMwc : LegalEncoding.Statement .setstMwc := by
  unfold LegalEncoding.Statement; decide +kernel

theorem LegalEncoding.setstMwc64 : LegalEncoding.Statement .setstMwc64 := by
  unfold LegalEncoding.Statement; decide +kernel

theorem LegalEncoding.setstLfsr113 : LegalEncoding.Statement .setstLfsr113 := by
  unfold LegalEncoding.Statement; decide +kernel

theorem LegalEncoding.setstLfsr88 : LegalEncoding.Statement .setstLfsr88 := by
  unfold LegalEncoding.Statement; decide +kernel

theorem LegalEncoding.setstKiss : LegalEncoding.Statement .setstKiss := by
  unfold LegalEncoding.Statement; decide +kernel

theorem LegalEncoding.setstKiss2 : LegalEncoding.Statement .setstKiss2 := by
  unfold LegalEncoding.Statement; decide +kernel

theorem LegalEncoding.setstLfib4 : LegalEncoding.Statement .setstLfib4 := by
  unfold LegalEncoding.Statement; decide +kernel

theorem LegalEncoding.setstSwb : LegalEncoding.Statement .setstSwb := by
  unfold LegalEncoding.Statement; decide +kernel

theorem LegalEncoding.sanCong : LegalEncoding.Statement .sanCong := by
  unfold LegalEncoding.Statement; decide +kernel

theorem LegalEncoding.sanShr3 : LegalEncoding.Statement .sanShr3 := by
  unfold LegalEncoding.Statement; decide +kernel

theorem LegalEncoding.sanMwc : LegalEncoding.Statement .sanMwc := by
  unfold LegalEncoding.Statement; decide +kernel

theorem LegalEncoding.sanMwc64 : LegalEncoding.Statement .sanMwc64 := by
  unfold LegalEncoding.Statement; decide +kernel

theorem LegalEncoding.sanLfsr113 : LegalEncoding.Statement .sanLfsr113 := by
  unfold LegalEncoding.Statement; decide +kernel

theorem LegalEncoding.sanLfsr88 : LegalEncoding.Statement .sanLfsr88 := by
  unfold LegalEncoding.Statement; decide +kernel

theorem LegalEncoding.sanKiss : LegalEncoding.Statement .sanKiss := by
  unfold LegalEncoding.Statement; decide +kernel

theorem LegalEncoding.sanKiss2 : LegalEncoding.Statement .sanKiss2 := by
  unfold LegalEncoding.Statement; decide +kernel

theorem LegalEncoding.sanLfib4 : LegalEncoding.Statement .sanLfib4 := by
  unfold LegalEncoding.Statement; decide +kernel

theorem LegalEncoding.sanSwb : LegalEncoding.Statement .sanSwb := by
  unfold LegalEncoding.Statement; decide +kernel

theorem LegalEncoding.jumpCong : LegalEncoding.Statement .jumpCong := by
  unfold LegalEncoding.Statement; decide +kernel

theorem LegalEncoding.jumpShr3 : LegalEncoding.Statement .jumpShr3 := by
  unfold LegalEncoding.Statement; decide +kernel

theorem LegalEncoding.jumpMwc : LegalEncoding.Statement .jumpMwc := by
  unfold LegalEncoding.Statement; decide +kernel

theorem LegalEncoding.jumpMwc64 : LegalEncoding.Statement .jumpMwc64 := by
  unfold LegalEncoding.Statement; decide +kernel

theorem LegalEncoding.jumpLfsr113 : LegalEncoding.Statement .jumpLfsr113 := by
  unfold LegalEncoding.Statement; decide +kernel

theorem LegalEncoding.jumpLfsr88 : LegalEncoding.Statement .jumpLfsr88 := by
  unfold LegalEncoding.Statement; decide +kernel

theorem LegalEncoding.jumpKiss : LegalEncoding.Statement .jumpKiss := by
  unfold LegalEncoding.Statement; decide +kernel

theorem LegalEncoding.jumpKiss2 : LegalEncoding.Statement .jumpKiss2 := by
  unfold LegalEncoding.Statement; decide +kernel

theorem LegalEncoding.jumpLfib4 : LegalEncoding.Statement .jumpLfib4 := by
  unfold LegalEncoding.Statement; decide +kernel

theorem LegalEncoding.jumpSwb : LegalEncoding.Statement .jumpSwb := by
  unfold LegalEncoding.Statement; decide +kernel

theorem LegalEncoding.mixCong : LegalEncoding.Statement .mixCong := by
  unfold LegalEncoding.Statement; decide +kernel

theorem LegalEncoding.mixShr3 : LegalEncoding.Statement .mixShr3 := by
  unfold LegalEncoding.Statement; decide +kernel

theorem LegalEncoding.mixMwc : LegalEncoding.Statement .mixMwc := by
  unfold LegalEncoding.Statement; decide +kernel

theorem LegalEncoding.mixMwc64 : LegalEncoding.Statement .mixMwc64 := by
  unfold LegalEncoding.Statement; decide +kernel

theorem LegalEncoding.mixLfsr113 : LegalEncoding.Statement .mixLfsr113 := by
  unfold LegalEncoding.Statement; decide +kernel

theorem LegalEncoding.mixLfsr88 : LegalEncoding.Statement .mixLfsr88 := by
  unfold LegalEncoding.Statement; decide +kernel

theorem LegalEncoding.mixKiss : LegalEncoding.Statement .mixKiss := by
  unfold LegalEncoding.Statement; decide +kernel

theorem LegalEncoding.mixKiss2 : LegalEncoding.Statement .mixKiss2 := by
  unfold LegalEncoding.Statement; decide +kernel

theorem LegalEncoding.mixLfib4 : LegalEncoding.Statement .mixLfib4 := by
  unfold LegalEncoding.Statement; decide +kernel

theorem LegalEncoding.mixSwb : LegalEncoding.Statement .mixSwb := by
  unfold LegalEncoding.Statement; decide +kernel

end Sys2Proof.Laws
end

