-- ==== Sys2Proof/Tests/Slice0.lean ====
section
/-! SUPPORT. Tests of the model: ill-formed words refused, every constructor's decoding from a word written out
from the spec's encoding, single steps on the spec's own examples, and for every statement with hypotheses a
witness that meets them. Expected values come from the "Example" and "Corner cases" lines of the rule a test
names. -/

namespace Sys2Proof.Machine.Tests

set_option Elab.async false

/-! ### Well-formedness: one ill-formed word for each check of rule R61 -/

/-- The fields of NOP. -/
def plain : CmdFields := ⟨0x00, 0, 0, 0, 0, 0⟩

theorem test_wf_nop : plain.legal = true := by decide
theorem test_wf_top_bits : { plain with z := 1 }.legal = false := by decide
theorem test_wf_undefined_op : { plain with op := 0x17 }.legal = false := by decide
theorem test_wf_unused_a : { plain with op := 0x14, a := 1 }.legal = false := by decide
theorem test_wf_unused_b : { plain with op := 0x21, b := 1 }.legal = false := by decide
theorem test_wf_unused_c : { plain with op := 0x16, c := 1 }.legal = false := by decide
theorem test_wf_matrix_dest : { plain with op := 0x10, a := 8 }.legal = false := by decide
theorem test_wf_matrix_source : { plain with op := 0x13, b := 8 }.legal = false := by decide
theorem test_wf_matrix_source2 : { plain with op := 0x15, c := 15 }.legal = false := by decide
theorem test_wf_unit : { plain with op := 0x21, a := 10 }.legal = false := by decide
theorem test_wf_rom : { plain with op := 0x18, b := 8 }.legal = false := by decide
theorem test_wf_x_not_seed : { plain with op := 0x21, f := 1 }.legal = false := by decide
theorem test_wf_flag_bits : { plain with op := 0x20, f := 2 }.legal = false := by decide
theorem test_wf_seed_x : { plain with op := 0x20, a := 9, f := 1 }.legal = true := by decide

/-- The value column of R5 (00_scope.md section 4). -/
theorem test_parameters_sizes : Config.sizes =
    { w := 32, w64 := 64, nMat := 8, nMax := 32, nRom := 8, nUnits := 10, sqDepth := 512, xbLen := 257,
      ring := 256, jumpW := 64, expW := 64, wideW := 64 } := by decide

/-- The decoder refuses the same words, each by its reason (rules R61, R212). -/
theorem test_decode_refusals :
    decode 0x01000000 = .error .topBits ∧ decode 0x00000017 = .error .undefinedOp ∧
    decode 0x00000114 = .error .unusedField ∧ decode 0x00008013 = .error .noSuchMatrix ∧
    decode 0x00000A21 = .error .noSuchUnit ∧ decode 0x00008018 = .error .noSuchRom ∧
    decode 0x00100021 = .error .unusedField ∧ decode 0x00200020 = .error .unusedField := by
  refine ⟨?_, ?_, ?_, ?_, ?_, ?_, ?_, ?_⟩ <;> rfl

/-! ### Decoding: every constructor from a word written out from its rule's encoding -/

/-- Every pair's word decodes to its command. -/
def decodesAll (l : List (Nat × Instr)) : Bool :=
  l.all fun p => decodeTableWord 32 p.1 == some p.2

/-- Rules R158 to R162 and R206 to R208. -/
theorem test_decode_system_queue : decodesAll
    [ (0x00000000, .nop),
      (0x00000001, .clrf),
      (0x00000002, .rst),
      (0x00000008, .sqclr),
      (0x00000009, .sqpush),
      (0x0000000A, .sqpusha),
      (0x0000000B, .sqpushw),
      (0x0000000C, .sqpushx) ] = true := by
  decide +kernel

/-- Rules R75 to R84, with their examples. -/
theorem test_decode_matrix : decodesAll
    [ (0x00000010, .munity 0),
      (0x00000711, .mshift 7),
      (0x00000212, .mmask 2),
      (0x00010213, .madd 2 0 1),
      (0x00003014, .mvmul 3),
      (0x00010215, .mmul 2 0 1),
      (0x00001215, .mmul 2 1 0),
      (0x00000116, .mpow 1 0),
      (0x00005318, .mrom 3 5),
      (0x00007019, .mget 7),
      (0x0000001A, .msetcol 0) ] = true := by
  decide +kernel

/-- SEED and SEED.X on the ten units. -/
theorem test_decode_seed : decodesAll
    [ (0x00000020, .seedCong false), (0x00100020, .seedCong true),
      (0x00000120, .seedShr3 false), (0x00100120, .seedShr3 true),
      (0x00000220, .seedMwc false), (0x00100220, .seedMwc true),
      (0x00000320, .seedMwc64 false), (0x00100320, .seedMwc64 true),
      (0x00000420, .seedLfsr113 false), (0x00100420, .seedLfsr113 true),
      (0x00000520, .seedLfsr88 false), (0x00100520, .seedLfsr88 true),
      (0x00000620, .seedKiss false), (0x00100620, .seedKiss true),
      (0x00000720, .seedKiss2 false), (0x00100720, .seedKiss2 true),
      (0x00000820, .seedLfib4 false), (0x00100820, .seedLfib4 true),
      (0x00000920, .seedSwb false), (0x00100920, .seedSwb true) ] = true := by
  decide +kernel

/-- ADV on the ten units. -/
theorem test_decode_adv : decodesAll
    [ (0x00000021, .advCong), (0x00000121, .advShr3), (0x00000221, .advMwc),
      (0x00000321, .advMwc64), (0x00000421, .advLfsr113), (0x00000521, .advLfsr88),
      (0x00000621, .advKiss), (0x00000721, .advKiss2), (0x00000821, .advLfib4),
      (0x00000921, .advSwb) ] = true := by
  decide +kernel

/-- CUR on the ten units. -/
theorem test_decode_cur : decodesAll
    [ (0x00000022, .curCong), (0x00000122, .curShr3), (0x00000222, .curMwc),
      (0x00000322, .curMwc64), (0x00000422, .curLfsr113), (0x00000522, .curLfsr88),
      (0x00000622, .curKiss), (0x00000722, .curKiss2), (0x00000822, .curLfib4),
      (0x00000922, .curSwb) ] = true := by
  decide +kernel

/-- GETST on the ten units. -/
theorem test_decode_getst : decodesAll
    [ (0x00000023, .getstCong), (0x00000123, .getstShr3), (0x00000223, .getstMwc),
      (0x00000323, .getstMwc64), (0x00000423, .getstLfsr113), (0x00000523, .getstLfsr88),
      (0x00000623, .getstKiss), (0x00000723, .getstKiss2), (0x00000823, .getstLfib4),
      (0x00000923, .getstSwb) ] = true := by
  decide +kernel

/-- SETST on the ten units. -/
theorem test_decode_setst : decodesAll
    [ (0x00000024, .setstCong), (0x00000124, .setstShr3), (0x00000224, .setstMwc),
      (0x00000324, .setstMwc64), (0x00000424, .setstLfsr113), (0x00000524, .setstLfsr88),
      (0x00000624, .setstKiss), (0x00000724, .setstKiss2), (0x00000824, .setstLfib4),
      (0x00000924, .setstSwb) ] = true := by
  decide +kernel

/-- SAN on the ten units. -/
theorem test_decode_san : decodesAll
    [ (0x00000025, .sanCong), (0x00000125, .sanShr3), (0x00000225, .sanMwc),
      (0x00000325, .sanMwc64), (0x00000425, .sanLfsr113), (0x00000525, .sanLfsr88),
      (0x00000625, .sanKiss), (0x00000725, .sanKiss2), (0x00000825, .sanLfib4),
      (0x00000925, .sanSwb) ] = true := by
  decide +kernel

/-- JUMP on the ten units. -/
theorem test_decode_jump : decodesAll
    [ (0x00000026, .jumpCong), (0x00000126, .jumpShr3), (0x00000226, .jumpMwc),
      (0x00000326, .jumpMwc64), (0x00000426, .jumpLfsr113), (0x00000526, .jumpLfsr88),
      (0x00000626, .jumpKiss), (0x00000726, .jumpKiss2), (0x00000826, .jumpLfib4),
      (0x00000926, .jumpSwb) ] = true := by
  decide +kernel

/-- MIX on the ten units. -/
theorem test_decode_mix : decodesAll
    [ (0x00000027, .mixCong), (0x00000127, .mixShr3), (0x00000227, .mixMwc),
      (0x00000327, .mixMwc64), (0x00000427, .mixLfsr113), (0x00000527, .mixLfsr88),
      (0x00000627, .mixKiss), (0x00000727, .mixKiss2), (0x00000827, .mixLfib4),
      (0x00000927, .mixSwb) ] = true := by
  decide +kernel

/-! ### States the tests start from -/

/-- A sound state with every unit seeded: small valid lanes, `M0` the identity of width 4, `M1` of width 8,
`M2` the identity of width 32, the other matrix registers unwritten. -/
def seededAll : State :=
  { State.reset with
    seeded := Table.fill Config.nUnits true
    mats := ((State.reset.mats.set 0 (unity 4)).set 1 (shiftMat 8 3)).set 2 (unity 32)
    cong := 1, shr3 := 1, mwc := ⟨0x12345678, 0x0E1CDEF2⟩, mwc64 := 0x123456789ABCDEF0
    lfsr113 := ⟨0x00010001, 0x00020002, 0x00030003, 0x00040004⟩
    lfsr88 := ⟨0x00010001, 0x00020002, 0x00030003⟩
    kiss := ⟨⟨1, 2⟩, 3, 4⟩, kiss2 := ⟨0x0000000100000002, 3, 4⟩ }

/-- A state with a fault recorded. -/
def faulted : State :=
  { seededAll with fault := some ⟨.illegal, 0x00000017⟩ }

/-- A queue of the given words. -/
def withQueue (l : List Word) (s : State) : State :=
  { s with sq := l.map .limb }

/-- A part of the next state. -/
def ran {α : Type} (r : Result) (f : State → α) : Option α :=
  match r with
  | .next t => some (f t)
  | .fault e => nomatch e
  | .refused _ => none

/-- The first columns of a matrix register. -/
def columns (r : MReg) (k : Nat) (s : State) : Nat × List Word :=
  ((s.mat r).n, (s.mat r).col.toList.take k)

theorem test_seededAll_all : ∀ u : UnitId, seededAll.isSeeded u = true := by
  intro u; cases u <;> rfl

theorem test_reset_unseeded : ∀ u : UnitId, State.reset.isSeeded u = false := by
  intro u; cases u <;> rfl

theorem test_seededAll_sound : seededAll.Sound where
  mats := by decide +kernel
  queue := by decide
  exchange := by decide +kernel
  record := trivial
  units := by
    intro u _
    cases u
    case cong => trivial
    case lfib4 => trivial
    case swb => trivial
    case shr3 => show seededAll.shr3 ≠ 0; decide
    case mwc => show mwcOk seededAll.mwc; decide
    case mwc64 => show mwc64Ok seededAll.mwc64; decide
    case lfsr113 =>
      show laneOk lane113z1 0x00010001 ∧ laneOk lane113z2 0x00020002 ∧ laneOk lane113z3 0x00030003 ∧
        laneOk lane113z4 0x00040004
      decide
    case lfsr88 =>
      show laneOk lane88z1 0x00010001 ∧ laneOk lane88z2 0x00020002 ∧ laneOk lane88z3 0x00030003
      decide
    case kiss => show mwcOk ⟨1, 2⟩ ∧ (4 : Word) ≠ 0; decide
    case kiss2 => show mwc64Ok 0x0000000100000002 ∧ (4 : Word) ≠ 0; decide

/-! ### Single steps on the spec's examples -/

/-- Rule R206. -/
theorem test_nop : ran (exec .nop seededAll) (fun t => t == seededAll) = some true := by
  decide +kernel

/-- Rule R207. -/
theorem test_clrf : ran (exec .clrf faulted) (fun t => (statusWord t, fcmdWord t, t.cong)) = some (0, 0, 1) := by
  decide +kernel

/-- Rule R208. -/
theorem test_rst : ran (exec .rst faulted) (fun t => t == State.reset) = some true := by
  decide +kernel

/-- Rule R158. -/
theorem test_sqclr : ran (exec .sqclr (withQueue [1, 2] seededAll)) (·.sq) = some [] := by
  decide +kernel

/-- Rule R159. -/
theorem test_sqpush : ran (exec .sqpush { State.reset with arg0 := 7 }) (fun t => (t.sq, sqcntWord t)) = some ([.limb 7], 1) := by
  decide +kernel

/-- Rule R160. -/
theorem test_sqpusha : ran (exec .sqpusha { State.reset with arg0 := 7, sq := [.limb 1] }) (·.sq) = some [.limb 1, .absent] := by
  decide +kernel

/-- Rule R161. -/
theorem test_sqpushw : ran (exec .sqpushw { State.reset with arg1 := 1, arg0 := 5 }) (·.sq) = some [.limb 5, .limb 1] := by
  decide +kernel

/-- Rule R161: -4294967291 gives one limb. -/
theorem test_sqpushw_negative : ran (exec .sqpushw { State.reset with arg1 := 0xFFFFFFFF, arg0 := 5 }) (·.sq) = some [.limb 5] := by
  decide +kernel

/-- Rule R162, after MGET of Unity(4). -/
theorem test_sqpushx : ran (exec .sqpushx (putXb [1, 2, 4, 8] seededAll)) (·.sq) = some [.limb 1, .limb 2, .limb 4, .limb 8] := by
  decide +kernel

/-- Rule R75. -/
theorem test_munity : ran (exec (.munity 0) { State.reset with arg0 := 4 }) (columns 0 5) = some (4, [1, 2, 4, 8, 0]) := by
  decide +kernel

/-- Rule R76. -/
theorem test_mshift : ran (exec (.mshift 1) { State.reset with arg0 := 8, arg1 := 3 }) (columns 1 8) = some (8, [0x08, 0x10, 0x20, 0x40, 0x80, 0, 0, 0]) := by
  decide +kernel

/-- Rule R76, k = -3. -/
theorem test_mshift_right : ran (exec (.mshift 1) { State.reset with arg0 := 8, arg1 := 0xFFFFFFFD }) (columns 1 8) = some (8, [0, 0, 0, 0x01, 0x02, 0x04, 0x08, 0x10]) := by
  decide +kernel

/-- Rule R77. -/
theorem test_mmask : ran (exec (.mmask 2) { State.reset with arg0 := 8, arg1 := 2, arg2 := 5 }) (columns 2 8) = some (8, [0, 0, 0x04, 0x08, 0x10, 0, 0, 0]) := by
  decide +kernel

/-- Rule R77, end below start. -/
theorem test_mmask_wraps : ran (exec (.mmask 2) { State.reset with arg0 := 8, arg1 := 6, arg2 := 2 }) (columns 2 8) = some (8, [0x01, 0x02, 0, 0, 0, 0, 0x40, 0x80]) := by
  decide +kernel

/-- Rule R78. -/
theorem test_madd : ran (exec (.madd 2 0 1) (setMat 0 (unity 8) (setMat 1 (shiftMat 8 3) State.reset))) (columns 2 8) = some (8, [0x09, 0x12, 0x24, 0x48, 0x90, 0x20, 0x40, 0x80]) := by
  decide +kernel

/-- Rule R79: one SHR3 step of 1. -/
theorem test_mvmul : ran (exec (.mvmul 0) (setMat 0 (rom 0) { State.reset with arg0 := 1 })) (·.res) = some 0x00042021 := by
  decide +kernel

/-- Rule R80. -/
theorem test_mmul : ran (exec (.mmul 2 0 1) (setMat 0 (shiftMat 8 3) (setMat 1 (shiftMat 8 (-3)) State.reset))) (columns 2 8) = some (8, [0, 0, 0, 0x08, 0x10, 0x20, 0x40, 0x80]) := by
  decide +kernel

/-- Rule R80, the factors exchanged. -/
theorem test_mmul_order : ran (exec (.mmul 2 1 0) (setMat 0 (shiftMat 8 3) (setMat 1 (shiftMat 8 (-3)) State.reset))) (columns 2 8) = some (8, [0x01, 0x02, 0x04, 0x08, 0x10, 0, 0, 0]) := by
  decide +kernel

/-- Rules R72 and R81: the cube of a shift by one. -/
theorem test_mpow : ran (exec (.mpow 1 0) (setMat 0 (shiftMat 8 1) { State.reset with arg0 := 3 })) (columns 1 8) = some (8, [0x08, 0x10, 0x20, 0x40, 0x80, 0, 0, 0]) := by
  decide +kernel

/-- Rules R82 and R98: column 0 of ROM[0]; rule R136: column 31 of ROM[1]. -/
theorem test_mrom : ran (exec (.mrom 3 0) State.reset) (columns 3 1) = some (32, [0x00042021]) ∧
    ran (exec (.mrom 3 1) State.reset) (fun t => (t.mat 3).column 31) = some 0x00040000 := by
  decide +kernel

/-- Rule R83. -/
theorem test_mget : ran (exec (.mget 0) seededAll) (fun t => (t.xlen, t.xb.toList.take 5)) = some (4, [1, 2, 4, 8, 0]) := by
  decide +kernel

/-- Rule R84. -/
theorem test_msetcol : ran (exec (.msetcol 0) { seededAll with arg0 := 0xF, arg1 := 2 }) (columns 0 4) = some (4, [1, 2, 0xF, 8]) := by
  decide +kernel

/-- Rule R88. -/
theorem test_seed_cong : ran (exec (.seedCong false) (withQueue [2051391225] State.reset)) (fun t => (t.cong, t.sq, t.isSeeded .cong)) = some (2051391225, [], true) := by
  decide +kernel

/-- Rule R100: a seed of 0 becomes all ones. -/
theorem test_seed_shr3 : ran (exec (.seedShr3 false) (withQueue [0] State.reset)) (·.shr3) = some 0xFFFFFFFF := by
  decide +kernel

/-- Rule R112. -/
theorem test_seed_mwc : ran (exec (.seedMwc false) (withQueue [0x12345678, 0x9ABCDEF0] State.reset)) (·.mwc) = some ⟨0x12345678, 0x0E1CDEF2⟩ := by
  decide +kernel

/-- Rule R112, empty queue. -/
theorem test_seed_mwc_empty : ran (exec (.seedMwc true) State.reset) (·.mwc) = some ⟨0x6F970000, 0x2D100002⟩ := by
  decide +kernel

/-- Rule R123, empty queue. -/
theorem test_seed_mwc64 : ran (exec (.seedMwc64 false) State.reset) (·.mwc64) = some 0x0619C7F200000005 := by
  decide +kernel

/-- Rule R140. -/
theorem test_seed_lfsr113 : ran (exec (.seedLfsr113 false) (withQueue [1, 2, 3, 4] State.reset)) (·.lfsr113) = some ⟨0x00010001, 0x00020002, 0x00030003, 0x00040004⟩ := by
  decide +kernel

/-- Rule R140, SQ = [Limb(0)]. -/
theorem test_seed_lfsr113_zero : ran (exec (.seedLfsr113 false) (withQueue [0] State.reset)) (·.lfsr113) = some ⟨0xFFFFFFFF, 0xFFFFFFFF, 0xFFFFFFFF, 0xFFFFFFFF⟩ := by
  decide +kernel

/-- Rule R148, empty queue. -/
theorem test_seed_lfsr88 : ran (exec (.seedLfsr88 false) State.reset) (·.lfsr88) = some ⟨0x0000FFFF, 0x0000FFFF, 0x0000FFFF⟩ := by
  decide +kernel

/-- Rule R172: repeat-last. -/
theorem test_seed_kiss : ran (exec (.seedKiss false) (withQueue [5] State.reset)) (·.kiss) = some ⟨⟨5, 5⟩, 5, 5⟩ := by
  decide +kernel

/-- Rule R180: repeat-last. -/
theorem test_seed_kiss2 : ran (exec (.seedKiss2 false) (withQueue [5] State.reset)) (·.kiss2) = some ⟨0x0000000500000005, 5, 5⟩ := by
  decide +kernel

/-- Rule R190: the bootstrap, and 255 entries fault. -/
theorem test_seed_lfib4 : ran (exec (.seedLfib4 false) State.reset) (fun t => outLfib4 t.lfib4) = some 0x35588294 ∧
    ran (exec (.seedLfib4 false) (withQueue (List.replicate 255 1) State.reset)) (·.fault) = some (some ⟨.seedLen, 0x00000820⟩) := by
  decide +kernel

/-- Rules R198 and R85: X is unsupported before the queue is looked at. -/
theorem test_seed_swb : ran (exec (.seedSwb true) (withQueue [1, 2, 3, 4, 5] State.reset)) (fun t => (t.fault, t.sq.length)) = some (some ⟨.unsup, 0x00100920⟩, 5) := by
  decide +kernel

/-- Rule R89. -/
theorem test_adv_cong : ran (exec .advCong seededAll) (fun t => (t.cong, t.res)) = some (81414, 81414) := by
  decide +kernel

/-- Rule R101. -/
theorem test_adv_shr3 : ran (exec .advShr3 seededAll) (fun t => (t.shr3, t.res)) = some (0x00042021, 0x00042021) := by
  decide +kernel

/-- Rule R113. -/
theorem test_adv_mwc : ran (exec .advMwc seededAll) (fun t => (t.mwc, t.res)) = some (⟨0x30C7096C, 0x3D3BE5BC⟩, 0x46A81683) := by
  decide +kernel

/-- Rule R113, MWCCOMB = 1. -/
theorem test_adv_mwc_concatenation : ran (exec .advMwc { seededAll with mwcComb := true }) (·.res) = some 0x46A7E5BC := by
  decide +kernel

/-- Rule R124. -/
theorem test_adv_mwc64 : ran (exec .advMwc64 seededAll) (fun t => (t.mwc64, t.res)) = some (0x192CCF66FD531EA8, 0xFD531EA8) := by
  decide +kernel

/-- Rule R141. -/
theorem test_adv_lfsr113 : ran (exec .advLfsr113 seededAll) (fun t => (t.lfsr113, t.res)) =
    some (⟨0x00000208, 0x00080000, 0x01800300, 0x80000240⟩, 0x81880348) := by
  decide +kernel

/-- Rule R149. -/
theorem test_adv_lfsr88 : ran (exec .advLfsr88 seededAll) (fun t => (t.lfsr88, t.res)) =
    some (⟨0x10000400, 0x00200000, 0x00000360⟩, 0x10200760) := by
  decide +kernel

/-- Rule R173. -/
theorem test_adv_kiss : ran (exec .advKiss seededAll) (fun t => (t.kiss, t.res)) =
    some (⟨⟨0x00009069, 0x00008CA0⟩, 0x000359A0, 0x00108084⟩, 0x907B5584) := by
  decide +kernel

/-- Rule R181. -/
theorem test_adv_kiss2 : ran (exec .advKiss2 seededAll) (fun t => (t.kiss2, t.res)) =
    some (⟨0x00000000534CBD5B, 0x000359A0, 0x00108084⟩, 0x5360977F) := by
  decide +kernel

/-- Rule R191, after the bootstrap. -/
theorem test_adv_lfib4 : outLfib4 (stepLfib4 ⟨boot, 0⟩) = 0x98D78F58 ∧
    ran (exec .advLfib4 { seededAll with lfib4 := ⟨boot, 0⟩ }) (fun t => (t.res, t.lfib4.cursor)) = some (0x98D78F58, 1) := by
  decide +kernel

/-- Rule R199, after the bootstrap. -/
theorem test_adv_swb : ran (exec .advSwb { seededAll with swb := ⟨boot, 0, false⟩ }) (fun t => (t.res, t.swb.cursor, t.swb.borrow)) =
    some (0xACC2EBED, 1, true) := by
  decide +kernel

/-- Rule R85. -/
theorem test_adv_unseeded : ran (exec .advSwb State.reset) (·.fault) = some (some ⟨.unseeded, 0x00000921⟩) := by
  decide +kernel

/-- Rule R119 gives the output of these lanes. -/
theorem test_cur_mwc : ran (exec .curMwc seededAll) (·.res) = some 0x6494F126 := by
  decide +kernel

/-- Rule R174. -/
theorem test_cur_kiss : ran (exec .curKiss seededAll) (·.res) = some 0x00010005 := by
  decide +kernel

/-- Rule R182. -/
theorem test_cur_kiss2 : ran (exec .curKiss2 seededAll) (·.res) = some 9 := by
  decide +kernel

/-- Rule R147 gives the output of these lanes. -/
theorem test_cur_lfsr113 : ran (exec .curLfsr113 { seededAll with lfsr113 := ⟨0x12345678, 0x9ABCDEF0, 0x0F1E2D3C, 0x4B5A6978⟩ }) (·.res) = some 0xCCCCCCCC := by
  decide +kernel

/-- Rule R155 gives the output of these lanes. -/
theorem test_cur_lfsr88 : ran (exec .curLfsr88 { seededAll with lfsr88 := ⟨0x12345678, 0x9ABCDEF0, 0x0F1E2D3C⟩ }) (·.res) = some 0x8796A5B4 := by
  decide +kernel

/-- Rule R91. -/
theorem test_getst_cong : ran (exec .getstCong { seededAll with cong := 7 }) (fun t => (t.xlen, t.xb.toList.take 2)) = some (1, [7, 0]) := by
  decide +kernel

/-- Rule R126: high word first. -/
theorem test_getst_mwc64 : ran (exec .getstMwc64 seededAll) (fun t => (t.xlen, t.xb.toList.take 3)) = some (2, [0x12345678, 0x9ABCDEF0, 0]) := by
  decide +kernel

/-- Rule R183. -/
theorem test_getst_kiss2 : ran (exec .getstKiss2 seededAll) (fun t => (t.xlen, t.xb.toList.take 5)) = some (4, [1, 2, 3, 4, 0]) := by
  decide +kernel

/-- Rule R193: the most recent word first, and XLEN 256. -/
theorem test_getst_lfib4 : ran (exec .getstLfib4 { seededAll with lfib4 := stepLfib4 ⟨boot, 0⟩ })
    (fun t => (t.xlen, t.xb.toList.take 2, t.xb.toList.drop 255)) =
    some (256, [0x98D78F58, 0x06B78BF0], [0x35588294, 0]) := by
  decide +kernel

/-- Rule R201: the borrow is word 256. -/
theorem test_getst_swb : ran (exec .getstSwb { seededAll with swb := stepSwb ⟨boot, 0, false⟩ }) (fun t => (t.xlen, t.xb.toList.take 1, t.xb.toList.drop 256)) =
    some (257, [0xACC2EBED], [1]) := by
  decide +kernel

/-- Rule R92. -/
theorem test_setst_cong : ran (exec .setstCong (withQueue [7] State.reset)) (fun t => (t.cong, t.isSeeded .cong)) = some (7, true) ∧
    ran (exec .setstCong State.reset) (·.fault) = some (some ⟨.seedLen, 0x00000024⟩) := by
  decide +kernel

/-- Rule R104. -/
theorem test_setst_shr3 : ran (exec .setstShr3 (withQueue [0] State.reset)) (·.shr3) = some 0xFFFFFFFF := by
  decide +kernel

/-- Rules R144 and R134: no spreading; a lane below its threshold is inverted. -/
theorem test_setst_lfsr113 : ran (exec .setstLfsr113 (withQueue [1, 8, 16, 128] State.reset)) (·.lfsr113) = some ⟨0xFFFFFFFE, 8, 16, 128⟩ := by
  decide +kernel

/-- Rule R202: the borrow is the low bit of word 256. -/
theorem test_setst_swb : ran (exec .setstSwb (withQueue (List.replicate 256 9 ++ [3]) State.reset)) (fun t => (t.swb.borrow, outSwb t.swb, t.sq)) =
    some (true, 9, []) := by
  decide +kernel

/-- Rule R165: an absent marker is a wrong length. -/
theorem test_setst_absent : ran (exec .setstMwc { State.reset with sq := [.limb 1, .absent] }) (·.fault) = some (some ⟨.seedLen, 0x00000224⟩) := by
  decide +kernel

/-- Rule R97. -/
theorem test_san_shr3 : ran (exec .sanShr3 { seededAll with shr3 := 0 }) (·.shr3) = some 0xFFFFFFFF := by
  decide +kernel

/-- Rule R110: the forbidden multiples. -/
theorem test_san_mwc : sanU 0 = 0x6F970000 ∧ sanU 0x9068FFFF = 0x6F970000 ∧ sanL 0x464FFFFF = 0x2D100002 ∧ sanL 0xD2EFFFFD = 0x2D100002 := by
  decide +kernel

/-- Rule R94: n = 3, -1 and 1000000. -/
theorem test_jump_cong : ran (exec .jumpCong { seededAll with cong := 0, arg0 := 3 }) (·.cong) = some 413970943 ∧
    jumpCong 12345 (-1) = 0 ∧ jumpCong 2051391225 1000000 = 2416584377 := by
  decide +kernel

/-- Rule R118. -/
theorem test_jump_mwc : ran (exec .jumpMwc { seededAll with mwc := ⟨2374144069, 1046675282⟩, arg0 := 1000000 }) (·.mwc) = some ⟨0x68882C6D, 0x0983DC9A⟩ := by
  decide +kernel

/-- Rule R129: n = -1. -/
theorem test_jump_mwc64 : ran (exec .jumpMwc64 { seededAll with mwc64 := 0x0000000029A65EAD, arg0 := 0xFFFFFFFF, arg1 := 0xFFFFFFFF }) (·.mwc64) = some 1 := by
  decide +kernel

/-- Rule R106: n = 1 is one step of rule R101. -/
theorem test_jump_shr3 : ran (exec .jumpShr3 { seededAll with arg0 := 1 }) (·.shr3) = some 0x00042021 := by
  decide +kernel

/-- Rules R196 and R213: unsupported before unseeded. -/
theorem test_jump_lfib4 : ran (exec .jumpLfib4 State.reset) (·.fault) = some (some ⟨.unsup, 0x00000826⟩) := by
  decide +kernel

/-- Rule R95. -/
theorem test_mix_cong : ran (exec .mixCong (withQueue [5] { seededAll with cong := 0 })) (fun t => (t.cong, t.sq)) = some (357690, []) := by
  decide +kernel

/-- Rule R107. -/
theorem test_mix_shr3 : ran (exec .mixShr3 (withQueue [5] { seededAll with shr3 := 5 })) (·.shr3) = some 0x0003E01F := by
  decide +kernel

/-- Rule R119. -/
theorem test_mix_mwc : ran (exec .mixMwc (withQueue [0x1000] seededAll)) (·.mwc) = some ⟨0x27C0796C, 0x0E1CDEF2⟩ := by
  decide +kernel

/-- Rule R147. -/
theorem test_mix_lfsr113 : ran (exec .mixLfsr113 (withQueue [0x1000] { seededAll with lfsr113 := ⟨0x12345678, 0x9ABCDEF0, 0x0F1E2D3C, 0x4B5A6978⟩ })) (·.lfsr113) =
    some ⟨0x12345678, 0x9ABCDEF0, 0x0F1E2D3C, 0x4F21189B⟩ := by
  decide +kernel

/-- Rule R155. -/
theorem test_mix_lfsr88 : ran (exec .mixLfsr88 (withQueue [0x1000] { seededAll with lfsr88 := ⟨0x12345678, 0x9ABCDEF0, 0x0F1E2D3C⟩ })) (·.lfsr88) =
    some ⟨0x12345678, 0xABCCEF78, 0x0F1E2D3C⟩ := by
  decide +kernel

/-- Rule R179, six folds of one limb. -/
theorem test_mix_kiss : ran (exec .mixKiss (withQueue (List.replicate 6 0xDEADBEEF) seededAll)) (·.kiss) =
    some ⟨⟨0x791D7C73, 0x00000002⟩, 0xA7B9ADCB, 0x476DA033⟩ := by
  decide +kernel

/-- Rule R187, three folds of one limb. -/
theorem test_mix_kiss2 : ran (exec .mixKiss2 (withQueue (List.replicate 3 0xDEADBEEF) seededAll)) (·.kiss2) =
    some ⟨0x082198D0BD462B96, 3, 0x476DA033⟩ := by
  decide +kernel

/-- Rule R207: STATUS after an undefined operation code; rules R53, R14: a bad read and a bad write. -/
theorem test_port_fault : ran (hostWrite 0x000 0x00000017 State.reset) (fun t => (statusWord t, fcmdWord t)) = some (0x00000011, 0x00000017) ∧
    ran (hostRead 0x3FF State.reset) (fun t => (t.hostData, statusWord t, fcmdWord t)) = some (0, 0x00000091, 0x000003FF) ∧
    ran (hostWrite 0x008 5 State.reset) (fun t => (t.res, statusWord t, fcmdWord t)) = some (0, 0x00000091, 0x80000008) := by
  decide +kernel

/-- A step runs the word withFetchWord places, as the first command after reset. -/
theorem test_step_fetches : ran (step (State.reset.withFetchWord 32 0x00000020)) (fun t => (t.isSeeded .cong, t.inbox)) = some (true, []) := by
  decide +kernel

/-! ### Witnesses: for every statement with hypotheses, states and operands that meet them, clause by clause -/

/-- The hypotheses `isSeeded u` and `¬ isSeeded u` of every generator statement. -/
theorem test_witness_seeded_and_unseeded :
    (∀ u : UnitId, seededAll.isSeeded u = true) ∧ ∀ u : UnitId, State.reset.isSeeded u = false :=
  ⟨test_seededAll_all, test_reset_unseeded⟩

theorem test_witness_AdvancePrimitives :
    (seededAll.isSeeded .cong = true ∧ seededAll.isSeeded .shr3 = true ∧ seededAll.isSeeded .mwc = true ∧
      seededAll.isSeeded .mwc64 = true) ∧
    ∀ u ∈ [UnitId.cong, .shr3, .mwc, .mwc64], State.reset.isSeeded u = false :=
  ⟨⟨rfl, rfl, rfl, rfl⟩, fun u _ => test_reset_unseeded u⟩

theorem test_witness_AdvanceLfsr :
    (seededAll.isSeeded .lfsr113 = true ∧ seededAll.isSeeded .lfsr88 = true) ∧
    ∀ u ∈ [UnitId.lfsr113, .lfsr88], State.reset.isSeeded u = false :=
  ⟨⟨rfl, rfl⟩, fun u _ => test_reset_unseeded u⟩

theorem test_witness_AdvanceKiss :
    (seededAll.isSeeded .kiss = true ∧ seededAll.isSeeded .kiss2 = true) ∧
    ∀ u ∈ [UnitId.kiss, .kiss2], State.reset.isSeeded u = false :=
  ⟨⟨rfl, rfl⟩, fun u _ => test_reset_unseeded u⟩

theorem test_witness_AdvanceRings :
    (seededAll.isSeeded .lfib4 = true ∧ seededAll.isSeeded .swb = true) ∧
    ∀ u ∈ [UnitId.lfib4, .swb], State.reset.isSeeded u = false :=
  ⟨⟨rfl, rfl⟩, fun u _ => test_reset_unseeded u⟩

theorem test_witness_CurrentOutputs :
    (∀ u : UnitId, seededAll.isSeeded u = true) ∧ ∀ u : UnitId, State.reset.isSeeded u = false :=
  test_witness_seeded_and_unseeded

theorem test_witness_GetState :
    (∀ u : UnitId, seededAll.isSeeded u = true) ∧ ∀ u : UnitId, State.reset.isSeeded u = false :=
  test_witness_seeded_and_unseeded

theorem test_witness_SanitizeCommands :
    (∀ u : UnitId, seededAll.Sound ∧ seededAll.isSeeded u = true) ∧
    ∀ u : UnitId, State.reset.isSeeded u = false :=
  ⟨fun u => ⟨test_seededAll_sound, test_seededAll_all u⟩, test_reset_unseeded⟩

theorem test_witness_MixPrimitives :
    (seededAll.isSeeded .cong = true ∧ seededAll.isSeeded .shr3 = true ∧ seededAll.isSeeded .mwc = true ∧
      seededAll.isSeeded .mwc64 = true) ∧
    ∀ u ∈ [UnitId.cong, .shr3, .mwc, .mwc64], State.reset.isSeeded u = false :=
  test_witness_AdvancePrimitives

theorem test_witness_MixLfsr :
    (seededAll.isSeeded .lfsr113 = true ∧ seededAll.isSeeded .lfsr88 = true) ∧
    ∀ u ∈ [UnitId.lfsr113, .lfsr88], State.reset.isSeeded u = false :=
  test_witness_AdvanceLfsr

theorem test_witness_MixKissUnits :
    (seededAll.isSeeded .kiss = true ∧ seededAll.isSeeded .kiss2 = true) ∧
    ∀ u ∈ [UnitId.kiss, .kiss2], State.reset.isSeeded u = false :=
  test_witness_AdvanceKiss

theorem test_witness_JumpCongSteps :
    seededAll.isSeeded .cong = true ∧ State.reset.isSeeded .cong = false := ⟨rfl, rfl⟩

theorem test_witness_JumpShr3Steps :
    seededAll.isSeeded .shr3 = true ∧ State.reset.isSeeded .shr3 = false := ⟨rfl, rfl⟩

theorem test_witness_JumpMultiplicative :
    (seededAll.isSeeded .mwc = true ∧ seededAll.isSeeded .mwc64 = true) ∧
    State.reset.isSeeded .mwc = false ∧ State.reset.isSeeded .mwc64 = false := ⟨⟨rfl, rfl⟩, rfl, rfl⟩

theorem test_witness_JumpLfsrSteps :
    (seededAll.isSeeded .lfsr113 = true ∧ seededAll.isSeeded .lfsr88 = true) ∧
    State.reset.isSeeded .lfsr113 = false ∧ State.reset.isSeeded .lfsr88 = false := ⟨⟨rfl, rfl⟩, rfl, rfl⟩

theorem test_witness_JumpKissUnits :
    (seededAll.isSeeded .kiss = true ∧ seededAll.isSeeded .kiss2 = true) ∧
    State.reset.isSeeded .kiss = false ∧ State.reset.isSeeded .kiss2 = false := ⟨⟨rfl, rfl⟩, rfl, rfl⟩

/-- Valid lanes at both ends of their ranges. -/
theorem test_witness_valid_lanes :
    mwcOk ⟨1, 1⟩ ∧ mwcOk ⟨0x9068FFFE, 0x464FFFFE⟩ ∧ ¬ mwcOk ⟨0x9068FFFF, 1⟩ ∧
    mwc64Ok 1 ∧ mwc64Ok 0x29A65EACFFFFFFFE ∧ ¬ mwc64Ok 0x29A65EACFFFFFFFF := by decide

theorem test_witness_MultiplicativeJumpIsSteps : mwcOk seededAll.mwc ∧ mwc64Ok seededAll.mwc64 := by decide

theorem test_witness_JumpBackUndoes : mwcOk seededAll.mwc ∧ mwc64Ok seededAll.mwc64 := by decide

/-- The clauses of the sanitizers: a valid lane of each kind, a value on either side of a lane's threshold. -/
theorem test_witness_SanitizersGiveValidStates :
    mwcOk seededAll.mwc ∧ mwc64Ok seededAll.mwc64 ∧ (1 : Word).toNat < 2 ^ lane113z1.s ∧
    ¬ (2 : Word).toNat < 2 ^ lane113z1.s := by decide

theorem test_witness_EncodeOfDecode :
    decode 0x00010215 = .ok (.mmul 2 0 1) ∧ decode 0x00100920 = .ok (.seedSwb true) := ⟨rfl, rfl⟩

theorem test_witness_IllegalWordsFault :
    (CmdFields.ofWord 0x00007775).legal = false ∧ (CmdFields.ofWord 0x00077715).legal = true ∧
    (CmdFields.ofWord 0x00087715).legal = false ∧ State.reset.fault = none := by decide

theorem test_witness_LegalMatchesOneRow :
    (⟨0xFFFFF8FF, 0x00000010⟩ : TableRow) ∈ tableRows ∧ (0x00000710 : Word) &&& 0xFFFFF8FF = 0x00000010 ∧
    (CmdFields.ofWord 0x00000710).legal = true := by decide

/-- Each kind of event at the head of the inbox; a command with no fault recorded, and with one: a dropped
word, CLRF and RST. -/
theorem test_witness_StepRunsDecoded :
    State.reset.inbox = [] ∧
    { State.reset with inbox := [.reset] }.inbox = .reset :: [] ∧
    { State.reset with inbox := [.read 1] }.inbox = .read 1 :: [] ∧
    { State.reset with inbox := [.write 4 7] }.inbox = .write 4 7 :: [] ∧
    ({ State.reset with inbox := [.write 0 0x20] }.inbox = .write 0 0x20 :: [] ∧
      decode 0x20 = .ok (.seedCong false) ∧ State.reset.fault = none) ∧
    ({ faulted with inbox := [.write 0 0x20] }.inbox = .write 0 0x20 :: [] ∧
      { faulted with inbox := [.write 0 0x20] }.fault ≠ none ∧ (0x20 : Word) ≠ 1 ∧ (0x20 : Word) ≠ 2) ∧
    decode 1 = .ok .clrf ∧ decode 2 = .ok .rst ∧
    (0x20 < 2 ^ 32 ∧ decode (BitVec.ofNat 32 0x20) = .ok (.seedCong false)) := by
  refine ⟨rfl, rfl, rfl, rfl, ⟨rfl, rfl, rfl⟩, ⟨rfl, by decide, by decide, by decide⟩, rfl, rfl, by decide, rfl⟩

/-- The first and last XB address, and both ends of each unmapped range. -/
theorem test_witness_HostReadMap :
    ((0x100 : BitVec 10) = BitVec.ofNat 10 (0x100 + (0 : Fin 257).val)) ∧
    ((0x200 : BitVec 10) = BitVec.ofNat 10 (0x100 + (256 : Fin 257).val)) ∧
    (0x00D ≤ (0x00D : BitVec 10).toNat ∧ (0x00D : BitVec 10).toNat ≤ 0x0FF) ∧
    (0x00D ≤ (0x0FF : BitVec 10).toNat ∧ (0x0FF : BitVec 10).toNat ≤ 0x0FF) ∧
    0x201 ≤ (0x201 : BitVec 10).toNat ∧ 0x201 ≤ (0x3FF : BitVec 10).toNat ∧
    (portRead State.reset 0x00C, portRead State.reset 0x00D, portRead State.reset 0x0FF,
      portRead State.reset 0x100, portRead State.reset 0x200, portRead State.reset 0x201) =
      (some 0, none, none, some 0, some 0, none) := by decide +kernel

theorem test_witness_HostWriteMap :
    (decode 0x20 = .ok (.seedCong false) ∧ State.reset.fault = none) ∧
    ((0x001 : BitVec 10) ≠ 0x000 ∧ (0x001 : BitVec 10) ≠ 0x003 ∧ (0x001 : BitVec 10) ≠ 0x004 ∧
      (0x001 : BitVec 10) ≠ 0x005 ∧ (0x001 : BitVec 10) ≠ 0x006) ∧
    ((0x007 : BitVec 10) ≠ 0x000 ∧ (0x007 : BitVec 10) ≠ 0x003 ∧ (0x007 : BitVec 10) ≠ 0x004 ∧
      (0x007 : BitVec 10) ≠ 0x005 ∧ (0x007 : BitVec 10) ≠ 0x006) := by
  refine ⟨⟨rfl, rfl⟩, by decide, by decide⟩

theorem test_witness_StatusAndFcmd :
    State.reset.fault = none ∧ faulted.fault = some ⟨.illegal, 0x00000017⟩ ∧
    (busFault true 0x3FF State.reset).fault = some ⟨.bus, 0x800003FF⟩ := by decide

theorem test_witness_CountAndSeededViews : State.Sound seededAll := test_seededAll_sound

theorem test_witness_BlockedWhileFaulted :
    faulted.fault = some ⟨.illegal, 0x00000017⟩ ∧ (3 : Word) ≠ 1 ∧ (3 : Word) ≠ 2 ∧
    portRead faulted 0x008 = some 0 ∧ portRead faulted 0x007 = none ∧
    ((0x008 : BitVec 10) ≠ 0 ∧ (0x008 : BitVec 10) ≠ 3 ∧ (0x008 : BitVec 10) ≠ 4 ∧ (0x008 : BitVec 10) ≠ 5 ∧
      (0x008 : BitVec 10) ≠ 6) := by decide

theorem test_witness_SystemCommands :
    (decode 0 = .ok .nop ∧ (0 : Word).extractLsb' 0 8 = 0) ∧ (decode 1 = .ok .clrf ∧ (1 : Word).extractLsb' 0 8 = 1) ∧
    (decode 2 = .ok .rst ∧ (2 : Word).extractLsb' 0 8 = 2) := ⟨⟨rfl, rfl⟩, ⟨rfl, rfl⟩, rfl, rfl⟩

theorem test_witness_FaultsArePrecise :
    (∃ t, exec .advCong State.reset = .next t ∧ t.fault ≠ State.reset.fault) ∧ Instr.advCong ≠ .clrf ∧
    Instr.advCong ≠ .rst ∧ State.reset.fault = none ∧ faulted.fault ≠ none := by
  refine ⟨⟨_, rfl, by decide⟩, by decide, by decide, rfl, by decide⟩

/-- A queue with one place left, and a full one. -/
theorem test_witness_QueuePush :
    (withQueue (List.replicate 511 0) State.reset).sq.length + 1 ≤ 512 ∧
    512 < (withQueue (List.replicate 512 0) State.reset).sq.length + 1 := by decide +kernel

/-- One limb and two limbs at the capacity and past it; XB full with room for it and without. -/
theorem test_witness_WideAndExchangePush :
    ({ State.reset with arg1 := 0xFFFFFFFF }.arg1 = 0xFFFFFFFF) ∧
    (¬ ((1 : Word) = 0 ∨ (1 : Word) = 0xFFFFFFFF)) ∧
    (withQueue (List.replicate 510 0) State.reset).sq.length + 2 ≤ 512 ∧
    512 < (withQueue (List.replicate 511 0) State.reset).sq.length + 2 ∧
    (putXb (List.replicate 257 0) State.reset).xlen ≤ 257 ∧
    (withQueue (List.replicate 255 0) State.reset).sq.length + 257 ≤ 512 ∧
    512 < (withQueue (List.replicate 256 0) State.reset).sq.length + 257 := by decide +kernel

/-- Widths 1 and 32, and 0 and 33. -/
theorem test_witness_MatrixConstructors :
    (1 ≤ (1 : Word).toNat ∧ (1 : Word).toNat ≤ 32) ∧ (1 ≤ (32 : Word).toNat ∧ (32 : Word).toNat ≤ 32) ∧
    (0 : Word).toNat < 1 ∧ 32 < (33 : Word).toNat := by decide

theorem test_witness_MatrixAddAndMultiply :
    (seededAll.mat 3).n = 0 ∧
    ((seededAll.mat 0).n ≠ 0 ∧ (seededAll.mat 1).n ≠ 0 ∧ (seededAll.mat 0).n ≠ (seededAll.mat 1).n) ∧
    ((seededAll.mat 2).n ≠ 0 ∧ (seededAll.mat 2).n = (seededAll.mat 2).n) := by decide +kernel

/-- On a register of width 4 the vectors 16 and 15; on one of width 32 any vector. -/
theorem test_witness_MatrixTimesVector :
    (seededAll.mat 3).n = 0 ∧
    ((seededAll.mat 0).n ≠ 0 ∧ (seededAll.mat 0).n < 32 ∧ (16 : Word) >>> (seededAll.mat 0).n ≠ 0) ∧
    (15 : Word) >>> (seededAll.mat 0).n = 0 ∧ (seededAll.mat 2).n ≠ 0 ∧ 32 ≤ (seededAll.mat 2).n := by
  decide +kernel

/-- Column index 3 and 4 on a register of width 4, values 15 and 16, and a register of width 32. -/
theorem test_witness_MatrixMoves :
    (seededAll.mat 3).n = 0 ∧ ((seededAll.mat 0).n ≠ 0 ∧ (seededAll.mat 0).n ≤ 32) ∧
    (seededAll.mat 0).n ≤ (4 : Word).toNat ∧ (3 : Word).toNat < (seededAll.mat 0).n ∧
    (seededAll.mat 0).n < 32 ∧ (16 : Word) >>> (seededAll.mat 0).n ≠ 0 ∧
    (15 : Word) >>> (seededAll.mat 0).n = 0 ∧ (seededAll.mat 2).n = 32 := by decide +kernel

theorem test_witness_MatrixPower :
    (seededAll.mat 3).n = 0 ∧ (seededAll.mat 1).n ≠ 0 ∧ matOk (seededAll.mat 1) := by decide +kernel

/-- Widths 1 and 32 with their largest vectors. -/
theorem test_witness_MatricesActOnVectors :
    ((unity 4).n = (shiftMat 4 1).n ∧ (unity 4).n ≤ 32) ∧ ((1 : Word).toNat < 2 ^ 1) ∧
    ((0xFFFFFFFF : Word).toNat < 2 ^ 32) := by decide

theorem test_witness_MatrixLaws :
    matOk (shiftMat 8 3) ∧ 1 ≤ (shiftMat 8 3).n ∧ (2 ^ 64 - 1) + 0 < 2 ^ 64 := by decide +kernel

theorem test_witness_RomMatricesStepTheirLanes : 0 < 2 ^ 64 ∧ 2 ^ 64 - 1 < 2 ^ 64 := by decide

/-- A queue of each tuple length, and the empty queue, which is no tuple. -/
theorem test_witness_SetState :
    (withQueue [7] State.reset).sq = [.limb 7] ∧ (withQueue [7, 8] State.reset).sq = [.limb 7, .limb 8] ∧
    (withQueue [7, 8, 9] State.reset).sq = [.limb 7, .limb 8, .limb 9] ∧
    (withQueue [7, 8, 9, 1] State.reset).sq = [.limb 7, .limb 8, .limb 9, .limb 1] ∧
    (withQueue boot.toList State.reset).sq = boot.toList.map .limb ∧
    (withQueue (boot.toList ++ [1]) State.reset).sq = boot.toList.map .limb ++ [.limb 1] ∧
    ∀ u : UnitId, ¬ ∃ l : List Word, l.length = tupleLength u ∧ State.reset.sq = l.map .limb := by
  refine ⟨rfl, rfl, rfl, rfl, rfl, by simp [withQueue], ?_⟩
  rintro u ⟨l, hl, hq⟩
  have : l = [] := List.map_eq_nil_iff.mp hq.symm
  subst this
  cases u <;> cases hl

theorem test_witness_SeedRings :
    State.reset.sq = [] ∧ (withQueue boot.toList State.reset).sq = boot.toList.map .limb ∧
    (withQueue [1] State.reset).sq ≠ [] ∧
    ¬ ∃ l : List Word, l.length = 256 ∧ (withQueue [1] State.reset).sq = l.map .limb := by
  refine ⟨rfl, rfl, by decide, ?_⟩
  rintro ⟨l, hl, hq⟩
  have := congrArg List.length hq
  simp [withQueue, hl] at this

/-- A sound state whose next event is ADV KISS. -/
theorem test_witness_StepKeepsSound :
    State.Sound { seededAll with inbox := [.write 0 0x00000621] } ∧
    ∃ t, step { seededAll with inbox := [.write 0 0x00000621] } = .next t ∧ t.kiss ≠ seededAll.kiss :=
  ⟨⟨test_seededAll_sound.mats, test_seededAll_sound.queue, test_seededAll_sound.exchange,
    test_seededAll_sound.record, fun u h => by
      have := test_seededAll_sound.units u h
      cases u <;> exact this⟩, _, rfl, by decide⟩

theorem test_witness_WritersOfSharedRegisters :
    (∃ t, exec .advCong seededAll = .next t ∧ t.res ≠ seededAll.res) ∧ Instr.advCong ≠ .rst ∧
    (∃ t, exec (.mrom 3 0) seededAll = .next t) ∧
    (∃ t, exec .getstCong seededAll = .next t ∧ t.xlen ≠ seededAll.xlen) ∧
    ∃ t, exec .sqpush seededAll = .next t ∧ t.sq ≠ seededAll.sq := by
  refine ⟨⟨_, rfl, by decide⟩, by decide, ⟨_, rfl⟩, ⟨_, rfl, by decide⟩, ⟨_, rfl, by decide⟩⟩

theorem test_witness_UnitsAreIndependent :
    (∃ t, exec .advKiss seededAll = .next t) ∧ Instr.advKiss ∉ unitCommands .cong ∧ Instr.advKiss ≠ .rst ∧
    seededAll.isSeeded .cong = true ∧
    (State.reset.isSeeded .cong = false ∧ ∃ t, exec (.seedCong false) State.reset = .next t ∧ t.isSeeded .cong = true) := by
  refine ⟨⟨_, rfl⟩, by decide, by decide, rfl, rfl, _, rfl, rfl⟩

/-- Two states that differ only in a field of a unit that is not seeded. -/
theorem test_witness_UnseededFieldsUnobservable :
    sameSeen State.reset { State.reset with cong := 5 } ∧ State.reset ≠ { State.reset with cong := 5 } := by
  refine ⟨⟨rfl, fun u h => ?_⟩, fun h => ?_⟩
  · rw [test_reset_unseeded u] at h; cases h
  · exact absurd (congrArg State.cong h) (by decide)

theorem test_witness_StateTupleRoundTrip :
    seededAll.Sound ∧ (∀ u : UnitId, seededAll.isSeeded u = true) ∧ (UnitId.cong ≠ .lfib4 ∧ UnitId.cong ≠ .swb) :=
  ⟨test_seededAll_sound, test_seededAll_all, by decide, by decide⟩

theorem test_witness_RotatedRingContinues :
    (∃ l r : Lfib4, l.cursor = 255 ∧ r.cursor = 0 ∧ ∀ i, r.buf.get i = l.buf.get (l.cursor + i)) ∧
    ∃ l r : Swb, l.cursor = 3 ∧ r.cursor = 0 ∧ r.borrow = l.borrow ∧
      ∀ i, r.buf.get i = l.buf.get (l.cursor + i) := by
  refine ⟨⟨⟨Table.fill 256 7, 255⟩, ⟨Table.fill 256 7, 0⟩, rfl, rfl, fun i => ?_⟩,
    ⟨⟨Table.fill 256 7, 3, true⟩, ⟨Table.fill 256 7, 0, true⟩, rfl, rfl, rfl, fun i => ?_⟩⟩ <;>
  simp [Table.get_fill]

end Sys2Proof.Machine.Tests
end

section
/-! PROOFS. The matrices as maps on words (rules R66 to R73): a product of a matrix and a vector is linear in
the vector, a matrix that agrees with a linear map on the words of one bit agrees with it everywhere, a
product of matrices applies the right factor first, and a power applies the matrix that often. -/

namespace Sys2Proof.Machine

/-! ### Lists of columns -/

theorem listFrom_eq_map {α : Type} (f : Nat → α) (i k : Nat) : listFrom f i k = (List.range' i k).map f := by
  induction k generalizing i with
  | zero => rfl
  | succ k ih => rw [listFrom, ih, List.range'_succ, List.map_cons]

/-- The first `n` entries of a table made from a function. -/
theorem take_tab {α : Type} {n m : Nat} (f : Nat → α) (h : n ≤ m) :
    (Table.tab m f).toList.take n = (List.range n).map f := by
  change (listFrom f 0 m).take n = _
  rw [listFrom_eq_map, ← List.map_take, ← List.range_eq_range', List.take_range, Nat.min_eq_left h]

/-- The columns below the width of a matrix made from a function. -/
theorem columns_matOf (n : Nat) (f : Nat → Word) (h : n ≤ Config.nMax) :
    (matOf n f).col.toList.take n = (List.range n).map f := by
  rw [matOf, take_tab _ h]
  refine List.map_congr_left fun i hi => if_pos (List.mem_range.mp hi)

/-- The columns below the width of any matrix. -/
theorem columns_eq_map_column (p : Mat) {n : Nat} (h : n ≤ Config.nMax) :
    p.col.toList.take n = (List.range n).map p.column := by
  refine List.ext_getElem ?_ fun i h₁ _ => ?_
  · simpa [p.col.length_toList] using h
  · have hi : i < p.col.toList.length := h₁.trans_le (List.length_take_le' n _)
    simp [Mat.column, List.getElem?_eq_getElem hi]

/-! ### Linear maps on words -/

/-- The map sends an XOR of words to the XOR of its values. -/
def XorLinear (f : Word → Word) : Prop :=
  ∀ x y, f (x ^^^ y) = f x ^^^ f y

theorem XorLinear.map_zero {f : Word → Word} (h : XorLinear f) : f 0 = 0 := by
  simpa using h 0 0

theorem XorLinear.id : XorLinear fun z => z := fun _ _ => rfl

theorem XorLinear.comp {f g : Word → Word} (hf : XorLinear f) (hg : XorLinear g) : XorLinear fun z => f (g z) :=
  fun x y => by simp only [hg x y, hf _ _]

theorem XorLinear.xor {f g : Word → Word} (hf : XorLinear f) (hg : XorLinear g) :
    XorLinear fun z => f z ^^^ g z := fun x y => by
  simp only [hf x y, hg x y]
  ac_rfl

theorem XorLinear.and {f : Word → Word} (hf : XorLinear f) (m : Word) : XorLinear fun z => f z &&& m :=
  fun x y => by
    ext i
    simp [hf x y, Bool.and_xor_distrib_right]

theorem XorLinear.shiftLeft {f : Word → Word} (hf : XorLinear f) (k : Nat) : XorLinear fun z => f z <<< k :=
  fun x y => by simp only [hf x y, BitVec.shiftLeft_xor_distrib]

theorem XorLinear.ushiftRight {f : Word → Word} (hf : XorLinear f) (k : Nat) : XorLinear fun z => f z >>> k :=
  fun x y => by simp only [hf x y, BitVec.ushiftRight_xor_distrib]

theorem xorLinear_xorColumns (cs : List Word) (i : Nat) : XorLinear (xorColumns cs i) := by
  intro v w
  induction cs generalizing i with
  | nil => simp [xorColumns]
  | cons c cs ih =>
    have hsel : (if (v ^^^ w).getLsbD i then c else 0) =
        (if v.getLsbD i then c else 0) ^^^ (if w.getLsbD i then c else 0) := by
      rw [BitVec.getLsbD_xor]
      cases v.getLsbD i <;> cases w.getLsbD i <;> simp
    simp only [xorColumns, hsel, ih]
    ac_rfl

theorem xorLinear_matVec (p : Mat) : XorLinear (matVec p) :=
  xorLinear_xorColumns _ 0

/-- A linear map goes through the XOR of the selected columns. -/
theorem XorLinear.map_xorColumns {f : Word → Word} (hf : XorLinear f) (cs : List Word) (i : Nat) (v : Word) :
    f (xorColumns cs i v) = xorColumns (cs.map f) i v := by
  induction cs generalizing i with
  | nil => exact hf.map_zero
  | cons c cs ih =>
    simp only [xorColumns, List.map_cons, hf _ _, ih]
    split
    · rfl
    · rw [hf.map_zero]

/-- A word is the XOR of its bits; of the bits from `i` on if only those are taken. -/
theorem getLsbD_xorColumns_bits (k i : Nat) (v : Word) (b : Nat) (h : i + k ≤ 32) :
    (xorColumns ((List.range' i k).map fun j => (1 : Word) <<< j) i v).getLsbD b =
      (decide (i ≤ b ∧ b < i + k) && v.getLsbD b) := by
  induction k generalizing i with
  | zero =>
    have : ¬ (i ≤ b ∧ b < i) := by omega
    simp [xorColumns, this]
  | succ k ih =>
    have hbit : (if v.getLsbD i then (1 : Word) <<< i else 0).getLsbD b = (decide (b = i) && v.getLsbD i) := by
      split
      · next hv =>
        have hone : (1 : Word).getLsbD (b - i) = decide (b - i = 0) := BitVec.getLsbD_one
        rw [hv, BitVec.getLsbD_shiftLeft, hone]
        grind
      · next hv => simp [hv]
    rw [List.range'_succ, List.map_cons, xorColumns, BitVec.getLsbD_xor, ih (i + 1) (by omega), hbit]
    grind

/-- The matrix whose columns are a linear map's values at the words of one bit is that map (rule R73, item
5). -/
theorem XorLinear.matVec_matOf {f : Word → Word} (hf : XorLinear f) (v : Word) :
    matVec (matOf 32 fun i => f ((1 : Word) <<< i)) v = f v := by
  have hbits : xorColumns ((List.range' 0 32).map fun j => (1 : Word) <<< j) 0 v = v := by
    refine BitVec.eq_of_getLsbD_eq fun b hb => ?_
    rw [getLsbD_xorColumns_bits _ _ _ _ (by omega)]
    simp [hb]
  calc matVec (matOf 32 fun i => f ((1 : Word) <<< i)) v
      = xorColumns ((List.range 32).map fun i => f ((1 : Word) <<< i)) 0 v := by
        rw [← columns_matOf 32 _ (le_refl 32)]
        rfl
    _ = f (xorColumns ((List.range' 0 32).map fun j => (1 : Word) <<< j) 0 v) := by
        rw [hf.map_xorColumns, List.map_map, List.range_eq_range']
        rfl
    _ = f v := by rw [hbits]

/-! ### Products and powers -/

theorem matVec_unity (v : Word) : matVec (unity 32) v = v :=
  XorLinear.id.matVec_matOf v

/-- A product applies its right factor first (rule R71). -/
theorem matVec_matMul {p q : Mat} (hw : p.n = q.n) (hn : p.n ≤ Config.nMax) (v : Word) :
    matVec (matMul p q) v = matVec p (matVec q v) := by
  have hcols : (matMul p q).col.toList.take p.n = (q.col.toList.take q.n).map (matVec p) := by
    rw [matMul, columns_matOf _ _ hn, ← hw, columns_eq_map_column q hn, List.map_map]
    rfl
  calc matVec (matMul p q) v = xorColumns ((matMul p q).col.toList.take p.n) 0 v := rfl
    _ = matVec p (matVec q v) := by rw [hcols, ← (xorLinear_matVec p).map_xorColumns]; rfl

/-- What the squaring loop of rule R72 keeps: the result applied after `e` times the square. -/
theorem matVec_matPowLoop (k : Nat) {e : Nat} (r s : Mat) (he : e < 2 ^ k) (hw : r.n = s.n)
    (hn : s.n ≤ Config.nMax) (v : Word) :
    matVec (matPowLoop k e r s) v = matVec r ((matVec s)^[e] v) := by
  induction k generalizing e r s with
  | zero =>
    have : e = 0 := by omega
    rw [this]
    rfl
  | succ k ih =>
    rw [matPowLoop]
    split
    · next h => rw [h]; rfl
    · have hsq : matVec (matMul s s) = (matVec s)^[2] := funext fun w => matVec_matMul rfl hn w
      have hhalf : e / 2 < 2 ^ k := by rw [pow_succ] at he; omega
      split
      · next hodd =>
        rw [ih (matMul r s) (matMul s s) hhalf hw hn, matVec_matMul hw (hw ▸ hn), hsq,
          ← Function.iterate_mul, ← Function.iterate_succ_apply' (matVec s)]
        congr 2
        omega
      · next heven =>
        rw [ih r (matMul s s) hhalf hw hn, hsq, ← Function.iterate_mul]
        congr 2
        omega

/-- A power of a matrix of full width applies the matrix that often (rule R72). -/
theorem matVec_matPow {p : Mat} (hp : p.n = 32) {e : Nat} (he : e < 2 ^ 64) (v : Word) :
    matVec (matPow p e) v = (matVec p)^[e] v := by
  rw [matPow_eq, hp, matVec_matPowLoop 64 _ _ he (by rw [hp]; rfl) hp.le, matVec_unity]

/-! ### The read-only matrices -/

theorem xorLinear_stepShr3 : XorLinear stepShr3 := by
  have hA : XorLinear fun y => y ^^^ ((y &&& 0x0007FFFF) <<< 13) :=
    XorLinear.id.xor ((XorLinear.id.and _).shiftLeft _)
  have hB : XorLinear fun a => a ^^^ (a >>> 17) := XorLinear.id.xor (XorLinear.id.ushiftRight _)
  have hC : XorLinear fun b => b ^^^ ((b &&& 0x07FFFFFF) <<< 5) :=
    XorLinear.id.xor ((XorLinear.id.and _).shiftLeft _)
  exact hC.comp (hB.comp hA)

theorem xorLinear_laneStep (p : Lane) : XorLinear (laneStep p) :=
  ((XorLinear.id.and _).shiftLeft _).xor
    ((((XorLinear.id.and _).shiftLeft _).xor XorLinear.id).ushiftRight _)

theorem xorLinear_romStep (k : RomIndex) : XorLinear (romStep k) := by
  unfold romStep
  split
  · exact xorLinear_stepShr3
  all_goals exact xorLinear_laneStep _

/-- The columns of each read-only matrix are its lane's steps of the words of one bit (rules R23, R98,
R136). -/
theorem rom_eq_matOf (k : RomIndex) : rom k = matOf 32 fun i => romStep k ((1 : Word) <<< i) := by
  revert k
  decide +kernel

theorem rom_width (k : RomIndex) : (rom k).n = 32 := by
  rw [rom_eq_matOf]
  rfl

theorem matVec_rom (k : RomIndex) : matVec (rom k) = romStep k := by
  funext z
  rw [rom_eq_matOf, (xorLinear_romStep k).matVec_matOf]

theorem matVec_matPow_rom (k : RomIndex) {j : Nat} (hj : j < 2 ^ 64) (z : Word) :
    matVec (matPow (rom k) j) z = (romStep k)^[j] z := by
  rw [matVec_matPow (rom_width k) hj, matVec_rom]

/-- Settles O28, from the linearity of the lanes' steps and of the product with a vector. -/
theorem romMatricesStepTheirLanes : Obligations.RomMatricesStepTheirLanes := fun k z =>
  ⟨congrFun (matVec_rom k) z, fun _ hj => matVec_matPow_rom k hj z⟩

end Sys2Proof.Machine
end

section
/-! PROOFS. Which matrix functions keep the invariant of a matrix register (rule R22). -/

namespace Sys2Proof.Machine

theorem matOk_matOf {n : Nat} {f : Nat → Word} (hn : n ≤ Config.nMax) (hf : ∀ i < n, (f i).toNat < 2 ^ n) :
    matOk (matOf n f) := by
  refine ⟨hn, fun i => ?_⟩
  have hget : (matOf n f).col.get i = if i.val < n then f i.val else 0 := Table.get_tab _ i
  rw [hget]
  refine ⟨fun hi => ?_, fun hi => if_neg (Nat.not_lt.mpr hi)⟩
  rw [if_pos (show i.val < n from hi)]
  exact hf i hi

theorem Mat.get_col (p : Mat) (i : Fin Config.nMax) : p.col.get i = p.column i.val :=
  p.col.get_eq_getD i 0

/-- The columns of a valid matrix are below the power of two of its width. -/
theorem column_lt_of_matOk {p : Mat} (hp : matOk p) {i : Nat} (hi : i < p.n) : (p.column i).toNat < 2 ^ p.n := by
  have hlt : i < Config.nMax := hi.trans_le hp.1
  rw [← p.get_col ⟨i, hlt⟩]
  exact (hp.2 ⟨i, hlt⟩).1 hi

theorem toNat_one_shiftLeft_lt {i n : Nat} (hi : i < n) : ((1 : Word) <<< i).toNat < 2 ^ n := by
  calc ((1 : Word) <<< i).toNat = 2 ^ i % 2 ^ 32 := by simp [Nat.shiftLeft_eq]
    _ ≤ 2 ^ i := Nat.mod_le _ _
    _ < 2 ^ n := Nat.pow_lt_pow_right (by decide) hi

theorem toNat_zero_lt_two_pow (n : Nat) : (0 : Word).toNat < 2 ^ n :=
  Nat.two_pow_pos n

theorem matOk_unity {n : Nat} (hn : n ≤ Config.nMax) : matOk (unity n) :=
  matOk_matOf hn fun _ hi => toNat_one_shiftLeft_lt hi

theorem matOk_shiftMat {n : Nat} (hn : n ≤ Config.nMax) (k : Int) : matOk (shiftMat n k) :=
  matOk_matOf hn fun i _ => by
    split
    · next h => exact toNat_one_shiftLeft_lt (by omega)
    · exact toNat_zero_lt_two_pow n

theorem matOk_maskMat {n : Nat} (hn : n ≤ Config.nMax) (start stop : Nat) : matOk (maskMat n start stop) :=
  matOk_matOf hn fun i hi => by
    split
    · exact toNat_one_shiftLeft_lt hi
    · exact toNat_zero_lt_two_pow n

theorem toNat_xor_lt {x y : Word} {n : Nat} (hx : x.toNat < 2 ^ n) (hy : y.toNat < 2 ^ n) :
    (x ^^^ y).toNat < 2 ^ n := by
  rw [BitVec.toNat_xor]
  exact Nat.xor_lt_two_pow hx hy

theorem matOk_matAdd {p q : Mat} (hp : matOk p) (hq : matOk q) (hw : p.n = q.n) : matOk (matAdd p q) := by
  refine ⟨hp.1, fun i => ?_⟩
  have hget : (matAdd p q).col.get i = p.col.get i ^^^ q.col.get i := by
    rw [p.get_col, q.get_col]
    exact Table.get_tab _ i
  rw [hget]
  obtain ⟨hpi, hpz⟩ := hp.2 i
  obtain ⟨hqi, hqz⟩ := hq.2 i
  rw [← hw] at hqi hqz
  refine ⟨fun hi => toNat_xor_lt (hpi hi) (hqi hi), fun hi => ?_⟩
  rw [hpz hi, hqz hi]
  rfl

theorem toNat_xorColumns_lt {cs : List Word} {n : Nat} (h : ∀ c ∈ cs, c.toNat < 2 ^ n) (i : Nat) (v : Word) :
    (xorColumns cs i v).toNat < 2 ^ n := by
  induction cs generalizing i with
  | nil => exact toNat_zero_lt_two_pow n
  | cons c cs ih =>
    obtain ⟨hc, hcs⟩ := List.forall_mem_cons.mp h
    refine toNat_xor_lt ?_ (ih hcs (i + 1))
    split
    · exact hc
    · exact toNat_zero_lt_two_pow n

theorem toNat_matVec_lt {p : Mat} (hp : matOk p) (v : Word) : (matVec p v).toNat < 2 ^ p.n := by
  refine toNat_xorColumns_lt (fun c hc => ?_) 0 v
  rw [columns_eq_map_column p hp.1] at hc
  obtain ⟨i, hi, rfl⟩ := List.mem_map.mp hc
  exact column_lt_of_matOk hp (List.mem_range.mp hi)

theorem matOk_matMul {p : Mat} (hp : matOk p) (q : Mat) : matOk (matMul p q) :=
  matOk_matOf hp.1 fun _ _ => toNat_matVec_lt hp _

theorem matOk_matPowLoop (k e : Nat) {r s : Mat} (hr : matOk r) (hs : matOk s) : matOk (matPowLoop k e r s) := by
  induction k generalizing e r s with
  | zero => exact hr
  | succ k ih =>
    rw [matPowLoop]
    split
    · exact hr
    · refine ih _ ?_ (matOk_matMul hs s)
      split
      · exact matOk_matMul hr s
      · exact hr

theorem matOk_matPow {p : Mat} (hp : matOk p) (e : Nat) : matOk (matPow p e) :=
  matOk_matPowLoop _ e (matOk_unity hp.1) hp

theorem matOk_rom (k : RomIndex) : matOk (rom k) := by
  rw [rom_eq_matOf]
  exact matOk_matOf (le_refl 32) fun i _ => BitVec.isLt _

theorem matOk_unwritten : matOk Mat.unwritten :=
  ⟨Nat.zero_le _, fun i => ⟨fun h => absurd h (Nat.not_lt_zero _), fun _ => Table.get_fill _ i⟩⟩

theorem get_setColumn (col : Table Word Config.nMax) (j : Nat) (v : Word) (i : Fin Config.nMax) :
    (setColumn col j v).get i = if j = i.val then v else col.get i :=
  List.getElem_set _

/-- A vector that is not too wide for a width is below its power of two (rules R74, R84). -/
theorem toNat_lt_of_not_tooWide {n : Nat} {v : Word} (h : tooWide n v = false) : v.toNat < 2 ^ n := by
  by_cases hn : n < 32
  · have hz : v >>> n = 0 := by simpa [tooWide, hn] using h
    have hdiv : v.toNat / 2 ^ n = 0 := by
      rw [← Nat.shiftRight_eq_div_pow, ← BitVec.toNat_ushiftRight, hz]
      rfl
    exact Nat.lt_of_div_eq_zero (Nat.two_pow_pos n) hdiv
  · exact v.isLt.trans_le (Nat.pow_le_pow_right (by decide) (Nat.le_of_not_lt hn))

theorem matOk_setColumn {p : Mat} (hp : matOk p) {j : Nat} (hj : j < p.n) {v : Word} (hv : v.toNat < 2 ^ p.n) :
    matOk { p with col := setColumn p.col j v } := by
  refine ⟨hp.1, fun i => ?_⟩
  obtain ⟨hlt, hzero⟩ := hp.2 i
  rw [get_setColumn]
  split
  · next hji => exact ⟨fun _ => hv, fun hi => absurd (hji ▸ hi) (Nat.not_le.mpr hj)⟩
  · exact ⟨hlt, hzero⟩

end Sys2Proof.Machine
end

section
/-! PROOFS. The lanes of the generators: which functions on a lane give a valid state, from a valid state or
from any (rules R28 to R35). -/

namespace Sys2Proof.Machine

/-! ### Modular exponentiation -/

theorem powModLoop_eq (k : Nat) {e acc b m : Nat} (he : e < 2 ^ k) (hacc : acc % m = acc) :
    powModLoop k e acc b m = acc * b ^ e % m := by
  induction k generalizing e acc b with
  | zero =>
    have : e = 0 := by omega
    simp [powModLoop, this, hacc]
  | succ k ih =>
    rw [powModLoop]
    split
    · next h => simp [h, hacc]
    · have hhalf : e / 2 < 2 ^ k := by rw [pow_succ] at he; omega
      have hpow (c : Nat) : c * (b * b % m) ^ (e / 2) % m = c * b ^ (2 * (e / 2)) % m := by
        rw [pow_mul, pow_two]
        exact Nat.ModEq.mul_left c ((Nat.mod_modEq (b * b) m).pow (e / 2))
      split
      · next hodd =>
        rw [ih hhalf (Nat.mod_mod _ _), hpow, Nat.mod_mul_mod, mul_assoc, ← pow_succ']
        congr 3
        omega
      · next heven =>
        rw [ih hhalf hacc, hpow]
        congr 3
        omega

/-- `powmod` is the power modulo `m` for every exponent of 64 bits (rule R7). -/
theorem powMod_eq_pow (a : Nat) {e : Nat} (m : Nat) (he : e < 2 ^ 64) : powMod a e m = a ^ e % m := by
  rw [powMod_eq, powModLoop_eq 64 he (Nat.mod_mod _ _), Nat.mod_mul_mod, one_mul, ← Nat.pow_mod]

/-- A reduced jump distance is an exponent of 64 bits. -/
theorem toNat_emod_lt (n : Int) {cycle : Nat} (h : 0 < cycle) : (n % (cycle : Int)).toNat < cycle := by
  have h₁ := Int.emod_lt_of_pos n (Int.natCast_pos.mpr h)
  have h₂ := Int.emod_nonneg n (Int.natCast_ne_zero.mpr h.ne')
  omega

theorem jumpMul_eq {cycle : Nat} (h : 0 < cycle) (h64 : cycle < 2 ^ 64) (mult m v : Nat) (n : Int) :
    jumpMul mult m cycle v n = mult ^ (n % cycle).toNat * v % m := by
  rw [jumpMul, powMod_eq_pow _ _ ((toNat_emod_lt n h).trans h64), Nat.mod_mul_mod]

/-- A multiplier without a common factor with the modulus takes nothing but multiples to 0. -/
theorem pow_mul_mod_pos {a m : Nat} (ha : Nat.Coprime m a) (e : Nat) {v : Nat} (hv : 1 ≤ v) (hvm : v < m) :
    1 ≤ a ^ e * v % m ∧ a ^ e * v % m < m := by
  refine ⟨Nat.one_le_iff_ne_zero.mpr fun h => ?_, Nat.mod_lt _ (by omega)⟩
  have hdvd : m ∣ v := (ha.pow_right e).dvd_of_dvd_mul_left (Nat.dvd_of_mod_eq_zero h)
  exact absurd (Nat.le_of_dvd hv hdvd) (Nat.not_le.mpr hvm)

/-- Where the value is a multiple of the modulus and all ones is not, the inverted value is none (rules R110,
R121). -/
theorem sub_mod_ne_zero {v m ones : Nat} (hv : v % m = 0) (hle : v ≤ ones) (h : ones % m ≠ 0) :
    (ones - v) % m ≠ 0 := fun hsub =>
  h (Nat.mod_eq_zero_of_dvd
    ((Nat.dvd_sub_iff_left hle (Nat.dvd_of_mod_eq_zero hv)).mp (Nat.dvd_of_mod_eq_zero hsub)))

/-! ### MWC and MWC64 -/

theorem toNat_ofNat_range {w m x : Nat} (hm : m ≤ 2 ^ w) (hx : 1 ≤ x ∧ x < m) :
    1 ≤ (BitVec.ofNat w x).toNat ∧ (BitVec.ofNat w x).toNat < m := by
  rwa [BitVec.toNat_ofNat, Nat.mod_eq_of_lt (hx.2.trans_le hm)]

theorem toNat_xor_ones (v : Word) : (v ^^^ 0xFFFFFFFF).toNat = 2 ^ 32 - 1 - v.toNat := by
  rw [← BitVec.toNat_not, ← BitVec.xor_allOnes]
  rfl

theorem sanMod_range {m : Nat} (hm : 0 < m) (h32 : m ≤ 2 ^ 32) (hones : (2 ^ 32 - 1) % m ≠ 0) (v : Word) :
    1 ≤ (sanMod v m).toNat ∧ (sanMod v m).toNat < m := by
  unfold sanMod
  split
  · next h => exact toNat_ofNat_range h32 ⟨Nat.one_le_iff_ne_zero.mpr h, Nat.mod_lt _ hm⟩
  · next h =>
    have hne := sub_mod_ne_zero (not_not.mp h) (Nat.le_sub_one_of_lt v.isLt) hones
    rw [toNat_xor_ones]
    exact toNat_ofNat_range h32 ⟨Nat.one_le_iff_ne_zero.mpr hne, Nat.mod_lt _ hm⟩

theorem sanU_range (u : Word) : 1 ≤ (sanU u).toNat ∧ (sanU u).toNat < mwcuMod :=
  sanMod_range (by decide) (by decide) (by decide) u

theorem sanL_range (l : Word) : 1 ≤ (sanL l).toNat ∧ (sanL l).toNat < mwclMod :=
  sanMod_range (by decide) (by decide) (by decide) l

/-- The low and the high half of a word, which the MWC lanes step with (rule R108). -/
theorem toNat_halves (u : Word) :
    (u &&& 0xFFFF).toNat = u.toNat % 2 ^ 16 ∧ (u >>> 16).toNat = u.toNat / 2 ^ 16 := by
  refine ⟨?_, by rw [BitVec.toNat_ushiftRight, Nat.shiftRight_eq_div_pow]⟩
  rw [BitVec.toNat_and]
  exact Nat.and_two_pow_sub_one_eq_mod u.toNat 16

/-- The step `a * (u mod 2^16) + u / 2^16` of an MWC lane stays between 1 and `a * 2^16 - 2`: it would reach
the modulus from the modulus only (rule R108). -/
theorem mwcStep_range (a : Nat) {u : Nat} (h : 1 ≤ u ∧ u < a * 2 ^ 16 - 1) :
    1 ≤ a * (u % 2 ^ 16) + u / 2 ^ 16 ∧ a * (u % 2 ^ 16) + u / 2 ^ 16 < a * 2 ^ 16 - 1 := by
  have hsplit : u = 2 ^ 16 * (u / 2 ^ 16) + u % 2 ^ 16 := (Nat.div_add_mod u _).symm
  have hlo : u % 2 ^ 16 < 2 ^ 16 := Nat.mod_lt _ (by decide)
  generalize u % 2 ^ 16 = lo at *
  generalize u / 2 ^ 16 = hi at *
  have hupper : a * lo ≤ a * (2 ^ 16 - 1) := Nat.mul_le_mul_left a (by omega)
  constructor
  · rcases Nat.eq_zero_or_pos lo with hz | hpos
    · omega
    · have := Nat.mul_le_mul_left a hpos
      omega
  · rcases Nat.lt_or_ge lo (2 ^ 16 - 1) with hlt | hge
    · have := Nat.mul_le_mul_left a (Nat.le_sub_one_of_lt hlt)
      omega
    · omega

theorem stepU_range {u : Word} (h : 1 ≤ u.toNat ∧ u.toNat < mwcuMod) :
    1 ≤ (stepU u).toNat ∧ (stepU u).toNat < mwcuMod := by
  have hstep : stepU u = BitVec.ofNat 32 (36969 * (u.toNat % 2 ^ 16) + u.toNat / 2 ^ 16) := by
    rw [← (toNat_halves u).1, ← (toNat_halves u).2, BitVec.ofNat_add, BitVec.ofNat_mul, BitVec.ofNat_toNat,
      BitVec.ofNat_toNat]
    simp [stepU]
  rw [hstep]
  exact toNat_ofNat_range (by decide) (mwcStep_range 36969 h)

theorem stepL_range {l : Word} (h : 1 ≤ l.toNat ∧ l.toNat < mwclMod) :
    1 ≤ (stepL l).toNat ∧ (stepL l).toNat < mwclMod := by
  have hstep : stepL l = BitVec.ofNat 32 (18000 * (l.toNat % 2 ^ 16) + l.toNat / 2 ^ 16) := by
    rw [← (toNat_halves l).1, ← (toNat_halves l).2, BitVec.ofNat_add, BitVec.ofNat_mul, BitVec.ofNat_toNat,
      BitVec.ofNat_toNat]
    simp [stepL]
  rw [hstep]
  exact toNat_ofNat_range (by decide) (mwcStep_range 18000 h)

theorem mwcOk_stepMwc {m : Mwc} (h : mwcOk m) : mwcOk (stepMwc m) :=
  ⟨stepU_range h.1, stepL_range h.2⟩

theorem mwcOk_sanMwc (m : Mwc) : mwcOk (sanMwc m) :=
  ⟨sanU_range m.upper, sanL_range m.lower⟩

theorem mwcOk_jumpMwc {m : Mwc} (h : mwcOk m) (n : Int) : mwcOk (jumpMwc m n) := by
  obtain ⟨⟨hu, hum⟩, hl, hlm⟩ := h
  constructor
  · refine toNat_ofNat_range (by decide) ?_
    rw [jumpMul_eq (by decide) (by decide)]
    exact pow_mul_mod_pos (by norm_num [mwcuMod, mwcuMult]) _ hu hum
  · refine toNat_ofNat_range (by decide) ?_
    rw [jumpMul_eq (by decide) (by decide)]
    exact pow_mul_mod_pos (by norm_num [mwclMod, mwclMult]) _ hl hlm

theorem mwcOk_mix1Mwc (comb : Bool) {m : Mwc} (h : mwcOk m) (w : Word) : mwcOk (mix1Mwc comb m w) := by
  unfold mix1Mwc
  split
  · exact ⟨stepU_range (sanU_range _), h.2⟩
  · exact ⟨h.1, stepL_range (sanL_range _)⟩

theorem mwc64Ok_stepMwc64 {v : DWord} (h : mwc64Ok v) : mwc64Ok (stepMwc64 v) := by
  refine toNat_ofNat_range (by decide) ?_
  have hcoprime : Nat.Coprime mwc64Mod mwc64Mult := by norm_num [mwc64Mod, mwc64Mult]
  have hrange := pow_mul_mod_pos hcoprime 1 h.1 h.2
  rwa [pow_one] at hrange

theorem mwc64Ok_sanMwc64 (v : DWord) : mwc64Ok (sanMwc64 v) := by
  have hlt (x : Nat) : x % mwc64Mod < mwc64Mod := Nat.mod_lt _ (by decide)
  unfold sanMwc64
  split
  · next h => exact toNat_ofNat_range (by decide) ⟨Nat.one_le_iff_ne_zero.mpr h, hlt _⟩
  · next h =>
    have hxor : (v ^^^ 0xFFFFFFFFFFFFFFFF).toNat = 2 ^ 64 - 1 - v.toNat := by
      rw [← BitVec.toNat_not, ← BitVec.xor_allOnes]
      rfl
    have hne := sub_mod_ne_zero (not_not.mp h) (Nat.le_sub_one_of_lt v.isLt) (by decide)
    rw [hxor]
    exact toNat_ofNat_range (by decide) ⟨Nat.one_le_iff_ne_zero.mpr hne, hlt _⟩

theorem mwc64Ok_jumpMwc64 {v : DWord} (h : mwc64Ok v) (n : Int) : mwc64Ok (jumpMwc64 v n) := by
  refine toNat_ofNat_range (by decide) ?_
  rw [jumpMul_eq (by decide) (by decide)]
  exact pow_mul_mod_pos (by norm_num [mwc64Mod, mwc64Mult]) _ h.1 h.2

theorem mwc64Ok_mix1Mwc64 (v : DWord) (w : Word) : mwc64Ok (mix1Mwc64 v w) :=
  mwc64Ok_stepMwc64 (mwc64Ok_sanMwc64 _)

/-! ### SHR3 -/

/-- A word equal to a masked left shift of itself is zero: every set bit would need a lower one. -/
theorem eq_zero_of_eq_and_shiftLeft {x m : Word} {k : Nat} (hk : 0 < k) (h : x = (x &&& m) <<< k) : x = 0 := by
  have hbit (i : Nat) : x.getLsbD i = false := by
    induction i using Nat.strong_induction_on with
    | _ i ih =>
      rw [h, BitVec.getLsbD_shiftLeft, BitVec.getLsbD_and]
      by_cases hi : i < k
      · simp [hi]
      · simp [ih (i - k) (by omega)]
  exact BitVec.eq_of_getLsbD_eq fun i _ => by simp [hbit i]

/-- A word equal to its own right shift is zero. -/
theorem eq_zero_of_eq_ushiftRight {x : Word} {k : Nat} (hk : 0 < k) (h : x = x >>> k) : x = 0 := by
  have hdiv : x.toNat = x.toNat / 2 ^ k := by
    rw [← Nat.shiftRight_eq_div_pow, ← BitVec.toNat_ushiftRight, ← h]
  refine BitVec.eq_of_toNat_eq ((Nat.eq_zero_or_pos x.toNat).resolve_right fun hpos => ?_)
  have := Nat.div_lt_self hpos (Nat.one_lt_two_pow hk.ne')
  omega

/-- Each of the three lines of rule R96 can be undone, so only 0 steps to 0. -/
theorem stepShr3_ne_zero {y : Word} (hy : y ≠ 0) : stepShr3 y ≠ 0 := fun h =>
  hy (eq_zero_of_eq_and_shiftLeft (by decide) (BitVec.xor_eq_zero_iff.mp
    (eq_zero_of_eq_ushiftRight (by decide) (BitVec.xor_eq_zero_iff.mp
      (eq_zero_of_eq_and_shiftLeft (by decide) (BitVec.xor_eq_zero_iff.mp h))))))

theorem sanShr3_ne_zero (y : Word) : sanShr3 y ≠ 0 := by
  unfold sanShr3
  split
  · decide
  · assumption

/-- A jump of SHR3 is some number of steps (rules R73 item 5, R98, R99). -/
theorem jumpShr3_eq_iterate (y : Word) (n : Int) : jumpShr3 y n = stepShr3^[(n % shr3Cycle).toNat] y :=
  matVec_matPow_rom 0 ((toNat_emod_lt n (by decide)).trans (by decide)) y

theorem jumpShr3_ne_zero {y : Word} (hy : y ≠ 0) (n : Int) : jumpShr3 y n ≠ 0 := by
  rw [jumpShr3_eq_iterate]
  exact Function.Iterate.rec (· ≠ 0) hy (fun _ h => stepShr3_ne_zero h) _

theorem mix1Shr3_ne_zero (y w : Word) : mix1Shr3 y w ≠ 0 :=
  stepShr3_ne_zero (sanShr3_ne_zero _)

/-! ### The Tausworthe lanes -/

/-- The seven lanes of LFSR113 and LFSR88. -/
def lanes : List Lane :=
  [lane113z1, lane113z2, lane113z3, lane113z4, lane88z1, lane88z2, lane88z3]

/-- How a lane's constants fit together: the mask C keeps the significant bits, which are not all 32, the two
terms of the step share no bit, and the shift A moves bits up by no more than the shift B moves them down
(rules R131 to R133). -/
def WellShaped (p : Lane) : Prop :=
  (∀ i < 32, p.maskC.getLsbD i = decide (p.s ≤ i)) ∧ p.sD + p.s + p.sB = 32 ∧
    0 < p.s ∧ 0 < p.sA ∧ p.sA ≤ p.sB

theorem wellShaped_of_mem_lanes : ∀ p ∈ lanes, WellShaped p := by
  unfold WellShaped
  decide

/-- Each lane has its read-only matrix (rule R23). -/
theorem exists_rom_of_mem_lanes : ∀ p ∈ lanes, ∃ k, rom k = laneMat p ∧ romStep k = laneStep p := by
  simp only [lanes, List.forall_mem_cons]
  exact ⟨⟨1, rfl, rfl⟩, ⟨2, rfl, rfl⟩, ⟨3, rfl, rfl⟩, ⟨4, rfl, rfl⟩, ⟨5, rfl, rfl⟩, ⟨6, rfl, rfl⟩,
    ⟨7, rfl, rfl⟩, by simp⟩

/-- A lane is invalid exactly when no significant bit is set. -/
theorem not_laneOk_iff {p : Lane} {z : Word} : ¬ laneOk p z ↔ ∀ i, p.s ≤ i → z.getLsbD i = false := by
  rw [laneOk, Nat.not_le]
  constructor
  · exact fun h i hi => Nat.testBit_lt_two_pow (h.trans_le (Nat.pow_le_pow_right (by decide) hi))
  · exact fun h => Nat.lt_pow_two_of_testBit _ h

theorem getLsbD_laneStep (p : Lane) (z : Word) (j : Nat) :
    (laneStep p z).getLsbD j =
      ((decide (j < 32) && !decide (j < p.sD) && (z.getLsbD (j - p.sD) && p.maskC.getLsbD (j - p.sD))) ^^
        ((decide (p.sB + j < 32) && !decide (p.sB + j < p.sA) &&
          (z.getLsbD (p.sB + j - p.sA) && p.maskA.getLsbD (p.sB + j - p.sA))) ^^ z.getLsbD (p.sB + j))) := by
  simp [laneStep]

/-- Only an invalid lane steps to an invalid one: the high bits of the new lane are the lane's lower
significant bits, and its low bits give the others one after another. -/
theorem laneOk_laneStep {p : Lane} (hp : WellShaped p) {z : Word} (hz : laneOk p z) : laneOk p (laneStep p z) := by
  obtain ⟨hC, hsum, hs, hA, hAB⟩ := hp
  by_contra hstep
  rw [not_laneOk_iff] at hstep
  have hlow (i : Nat) (hi : p.s ≤ i) (hi' : i + p.sD < 32) : z.getLsbD i = false := by
    have hbit := hstep (i + p.sD) (by omega)
    have hover : 32 ≤ p.sB + (i + p.sD) := by omega
    rw [getLsbD_laneStep, Nat.add_sub_cancel, hC i (by omega), BitVec.getLsbD_of_ge z _ hover] at hbit
    simpa [hi, hi', Nat.not_lt.mpr hover] using hbit
  have hall (i : Nat) : p.s ≤ i → z.getLsbD i = false := by
    induction i using Nat.strong_induction_on with
    | _ i ih =>
      intro hi
      by_cases h32 : 32 ≤ i
      · exact BitVec.getLsbD_of_ge z i h32
      by_cases hi' : i + p.sD < 32
      · exact hlow i hi hi'
      · have hbit := hstep (i - p.sB) (by omega)
        have hdown : p.sB + (i - p.sB) = i := by omega
        have hprev : z.getLsbD (i - p.sA) = false := ih _ (by omega) (by omega)
        have hmask : p.maskC.getLsbD (i - p.sB - p.sD) = false := by
          rw [hC _ (by omega)]
          exact decide_eq_false (by omega)
        rw [getLsbD_laneStep, hdown, hprev, hmask] at hbit
        simpa using hbit
  exact not_laneOk_iff.mpr hall hz

theorem laneOk_laneSan {p : Lane} (hp : WellShaped p) (z : Word) : laneOk p (laneSan p z) := by
  obtain ⟨-, hsum, hs, hA, hAB⟩ := hp
  unfold laneSan
  split
  · next h =>
    have hpow : 2 ^ p.s ≤ 2 ^ 31 := Nat.pow_le_pow_right (by decide) (by omega)
    rw [laneOk, toNat_xor_ones]
    omega
  · next h => exact Nat.le_of_not_lt h

theorem laneOk_mixLane {p : Lane} (hp : WellShaped p) (z w : Word) : laneOk p (mixLane p z w) :=
  laneOk_laneStep hp (laneOk_laneSan hp _)

/-- A jump of a lane is some number of steps (rules R73 item 5, R136, R137). -/
theorem laneJump_eq_iterate {p : Lane} (hp : p ∈ lanes) (z : Word) (n : Int) :
    laneJump p z n = (laneStep p)^[(n % laneCycle p).toNat] z := by
  obtain ⟨-, hsum, hs, hA, hAB⟩ := wellShaped_of_mem_lanes p hp
  obtain ⟨k, hmat, hstep⟩ := exists_rom_of_mem_lanes p hp
  have hpos : 0 < laneCycle p := Nat.sub_pos_of_lt (Nat.one_lt_two_pow (by omega))
  have hle : laneCycle p < 2 ^ 64 :=
    (Nat.sub_le _ _).trans_lt (Nat.pow_lt_pow_right (by decide) (by omega))
  rw [laneJump, ← hmat, ← hstep]
  exact matVec_matPow_rom k ((toNat_emod_lt n hpos).trans hle) z

theorem laneOk_laneJump {p : Lane} (hp : p ∈ lanes) {z : Word} (hz : laneOk p z) (n : Int) :
    laneOk p (laneJump p z n) := by
  rw [laneJump_eq_iterate hp]
  exact Function.Iterate.rec (laneOk p) hz (fun _ h => laneOk_laneStep (wellShaped_of_mem_lanes p hp) h) _

end Sys2Proof.Machine
end

section
/-! PROOFS. The ten units as one family: the fields of a unit as one value, reading and writing it in the
state, and each generator operation of rule R59 said once for every unit. The equations `exec_seedOf` to
`exec_mixOf` tie the family to the commands. -/

namespace Sys2Proof.Machine

/-! ### The fields of a unit -/

/-- The fields of a unit as one value (rules R28 to R37). -/
abbrev UnitState : UnitId → Type
  | .cong => Word
  | .shr3 => Word
  | .mwc => Mwc
  | .mwc64 => DWord
  | .lfsr113 => Lfsr113
  | .lfsr88 => Lfsr88
  | .kiss => Kiss
  | .kiss2 => Kiss2
  | .lfib4 => Lfib4
  | .swb => Swb

/-- The fields of unit `u` in a state. -/
def State.unit (s : State) : (u : UnitId) → UnitState u
  | .cong => s.cong
  | .shr3 => s.shr3
  | .mwc => s.mwc
  | .mwc64 => s.mwc64
  | .lfsr113 => s.lfsr113
  | .lfsr88 => s.lfsr88
  | .kiss => s.kiss
  | .kiss2 => s.kiss2
  | .lfib4 => s.lfib4
  | .swb => s.swb

/-- The state with the fields of unit `u` written. -/
def setUnit : (u : UnitId) → UnitState u → State → State
  | .cong, v, s => { s with cong := v }
  | .shr3, v, s => { s with shr3 := v }
  | .mwc, v, s => { s with mwc := v }
  | .mwc64, v, s => { s with mwc64 := v }
  | .lfsr113, v, s => { s with lfsr113 := v }
  | .lfsr88, v, s => { s with lfsr88 := v }
  | .kiss, v, s => { s with kiss := v }
  | .kiss2, v, s => { s with kiss2 := v }
  | .lfib4, v, s => { s with lfib4 := v }
  | .swb, v, s => { s with swb := v }

section
variable (u : UnitId) (v : UnitState u) (s : State)

@[simp] theorem setUnit_fault : (setUnit u v s).fault = s.fault := by cases u <;> rfl
@[simp] theorem setUnit_mwcComb : (setUnit u v s).mwcComb = s.mwcComb := by cases u <;> rfl
@[simp] theorem setUnit_arg0 : (setUnit u v s).arg0 = s.arg0 := by cases u <;> rfl
@[simp] theorem setUnit_arg1 : (setUnit u v s).arg1 = s.arg1 := by cases u <;> rfl
@[simp] theorem setUnit_arg2 : (setUnit u v s).arg2 = s.arg2 := by cases u <;> rfl
@[simp] theorem setUnit_res : (setUnit u v s).res = s.res := by cases u <;> rfl
@[simp] theorem setUnit_mats : (setUnit u v s).mats = s.mats := by cases u <;> rfl
@[simp] theorem setUnit_sq : (setUnit u v s).sq = s.sq := by cases u <;> rfl
@[simp] theorem setUnit_xb : (setUnit u v s).xb = s.xb := by cases u <;> rfl
@[simp] theorem setUnit_xlen : (setUnit u v s).xlen = s.xlen := by cases u <;> rfl
@[simp] theorem setUnit_seeded : (setUnit u v s).seeded = s.seeded := by cases u <;> rfl
@[simp] theorem setUnit_inbox : (setUnit u v s).inbox = s.inbox := by cases u <;> rfl
@[simp] theorem setUnit_hostData : (setUnit u v s).hostData = s.hostData := by cases u <;> rfl

@[simp] theorem unit_setUnit_self : (setUnit u v s).unit u = v := by cases u <;> rfl

end

theorem unit_setUnit_of_ne {u w : UnitId} (h : u ≠ w) (v : UnitState u) (s : State) :
    (setUnit u v s).unit w = s.unit w := by
  cases u <;> cases w <;> trivial

theorem unit_withUnitsOf (s t : State) (u : UnitId) : (withUnitsOf s t).unit u = s.unit u := by
  cases u <;> rfl

/-- An update that writes no generator field leaves every unit as it was. -/
theorem unit_eq_of_withUnitsOf {s t : State} (h : withUnitsOf s t = t) (u : UnitId) : t.unit u = s.unit u := by
  rw [← h, unit_withUnitsOf]

theorem sameUnit_iff {s t : State} {u : UnitId} : sameUnit s t u ↔ s.unit u = t.unit u := by
  cases u <;> exact Iff.rfl

/-- What a unit's fields satisfy while it is seeded (rules R28 to R37). -/
def validUnit : (u : UnitId) → UnitState u → Prop
  | .cong, _ => True
  | .shr3, y => y ≠ 0
  | .mwc, m => mwcOk m
  | .mwc64, v => mwc64Ok v
  | .lfsr113, z =>
    laneOk lane113z1 z.z1 ∧ laneOk lane113z2 z.z2 ∧ laneOk lane113z3 z.z3 ∧ laneOk lane113z4 z.z4
  | .lfsr88, z => laneOk lane88z1 z.z1 ∧ laneOk lane88z2 z.z2 ∧ laneOk lane88z3 z.z3
  | .kiss, k => mwcOk k.mwc ∧ k.shr3 ≠ 0
  | .kiss2, k => mwc64Ok k.mwc64 ∧ k.shr3 ≠ 0
  | .lfib4, _ => True
  | .swb, _ => True

theorem unitOk_iff {s : State} {u : UnitId} : unitOk s u ↔ validUnit u (s.unit u) := by
  cases u <;> exact Iff.rfl

/-! ### What the generator operations do to a unit's fields -/

/-- The advance of each unit. -/
def stepUnit : (u : UnitId) → UnitState u → UnitState u
  | .cong => stepCong
  | .shr3 => stepShr3
  | .mwc => stepMwc
  | .mwc64 => stepMwc64
  | .lfsr113 => map113 laneStep
  | .lfsr88 => map88 laneStep
  | .kiss => stepKiss
  | .kiss2 => stepKiss2
  | .lfib4 => stepLfib4
  | .swb => stepSwb

/-- The output of each unit; MODE chooses the variant of unit MWC. -/
def outUnit (comb : Bool) : (u : UnitId) → UnitState u → Word
  | .cong => outCong
  | .shr3 => outShr3
  | .mwc => fun m => outMwc m comb
  | .mwc64 => outMwc64
  | .lfsr113 => out113
  | .lfsr88 => out88
  | .kiss => outKiss
  | .kiss2 => outKiss2
  | .lfib4 => outLfib4
  | .swb => outSwb

/-- The sanitization of each unit; the ring units have no forbidden state. -/
def sanUnit : (u : UnitId) → UnitState u → UnitState u
  | .cong => sanCong
  | .shr3 => sanShr3
  | .mwc => sanMwc
  | .mwc64 => sanMwc64
  | .lfsr113 => map113 laneSan
  | .lfsr88 => map88 laneSan
  | .kiss => sanKiss
  | .kiss2 => sanKiss2
  | .lfib4 => id
  | .swb => id

/-- The jump of each unit; the ring units have none. -/
def jumpUnit (n : Int) : (u : UnitId) → Option (UnitState u → UnitState u)
  | .cong => some fun x => jumpCong x n
  | .shr3 => some fun y => jumpShr3 y n
  | .mwc => some fun m => jumpMwc m n
  | .mwc64 => some fun v => jumpMwc64 v n
  | .lfsr113 => some (map113 fun p z => laneJump p z n)
  | .lfsr88 => some (map88 fun p z => laneJump p z n)
  | .kiss => some fun k => jumpKiss k n
  | .kiss2 => some fun k => jumpKiss2 k n
  | .lfib4 => none
  | .swb => none

/-- The one-limb mixer of each unit; the ring units have none. -/
def mixUnit (comb : Bool) : (u : UnitId) → Option (UnitState u → Word → UnitState u)
  | .cong => some mix1Cong
  | .shr3 => some mix1Shr3
  | .mwc => some (mix1Mwc comb)
  | .mwc64 => some mix1Mwc64
  | .lfsr113 => some mix1Lfsr113
  | .lfsr88 => some mix1Lfsr88
  | .kiss => some mix1Kiss
  | .kiss2 => some mix1Kiss2
  | .lfib4 => none
  | .swb => none

/-- The state tuple of a unit's fields. -/
def tupleUnit : (u : UnitId) → UnitState u → List Word
  | .cong, x => [x]
  | .shr3, y => [y]
  | .mwc, m => [m.upper, m.lower]
  | .mwc64, v => [hiWord v, loWord v]
  | .lfsr113, z => [z.z1, z.z2, z.z3, z.z4]
  | .lfsr88, z => [z.z1, z.z2, z.z3]
  | .kiss, k => tupleKiss k
  | .kiss2, k => tupleKiss2 k
  | .lfib4, l => rotated l.buf l.cursor
  | .swb, b => rotated b.buf b.cursor ++ [bitWord b.borrow]

/-- The fields, not yet sanitized, that a state tuple stands for. -/
def untupleUnit : (u : UnitId) → Table Word (tupleLength u) → UnitState u
  | .cong, v => v.get (0 : Fin 1)
  | .shr3, v => v.get (0 : Fin 1)
  | .mwc, v => ⟨v.get (0 : Fin 2), v.get (1 : Fin 2)⟩
  | .mwc64, v => u64 (v.get (0 : Fin 2)) (v.get (1 : Fin 2))
  | .lfsr113, v => ⟨v.get (0 : Fin 4), v.get (1 : Fin 4), v.get (2 : Fin 4), v.get (3 : Fin 4)⟩
  | .lfsr88, v => ⟨v.get (0 : Fin 3), v.get (1 : Fin 3), v.get (2 : Fin 3)⟩
  | .kiss, v => ⟨⟨v.get (0 : Fin 4), v.get (1 : Fin 4)⟩, v.get (2 : Fin 4), v.get (3 : Fin 4)⟩
  | .kiss2, v => ⟨u64 (v.get (0 : Fin 4)) (v.get (1 : Fin 4)), v.get (2 : Fin 4), v.get (3 : Fin 4)⟩
  | .lfib4, v => ⟨v, 0⟩
  | .swb, v => swbOfTuple v

/-- What SEED loads into a ring, or the fault it raises (rules R190, R198). -/
def seedRingOr (x : Bool) (q : List SqEntry) : Cause ⊕ Table Word Config.ring :=
  if x then .inl .unsup else (seedRing q).elim (.inl .seedLen) .inr

theorem seedRingUnit_eq (x : Bool) (i : Instr) (s : State) (done : Table Word Config.ring → State) :
    seedRingUnit x i s done = (seedRingOr x s.sq).elim (fun c => trap c i s) fun b => .next (done b) := by
  unfold seedRingUnit seedRingOr
  cases x
  · cases seedRing s.sq <;> rfl
  · rfl

/-- The fields SEED gives a unit from the queue, or the fault it raises: the seed fields, sanitized, and with X
the entries after them mixed in (rules R166, R167). -/
def seedUnit (x comb : Bool) (q : List SqEntry) : (u : UnitId) → Cause ⊕ UnitState u
  | .cong => .inr (seedWith mix1Cong x 1 q (sanCong (seedField q 0 (seedDefault .cong 0))))
  | .shr3 => .inr (seedWith mix1Shr3 x 1 q (sanShr3 (seedField q 0 (seedDefault .shr3 0))))
  | .mwc =>
    let v := fun j => seedField q j (seedDefault .mwc j)
    .inr (seedWith (mix1Mwc comb) x 2 q (sanMwc ⟨v 0, v 1⟩))
  | .mwc64 =>
    let v := fun j => seedField q j (seedDefault .mwc64 j)
    .inr (seedWith mix1Mwc64 x 2 q (sanMwc64 (u64 (v 0) (v 1))))
  | .lfsr113 =>
    let v := fun j => seedField q j (seedDefault .lfsr113 j)
    .inr (seedWith mix1Lfsr113 x 4 q (map113 seedLane ⟨v 0, v 1, v 2, v 3⟩))
  | .lfsr88 =>
    let v := fun j => seedField q j (seedDefault .lfsr88 j)
    .inr (seedWith mix1Lfsr88 x 3 q (map88 seedLane ⟨v 0, v 1, v 2⟩))
  | .kiss =>
    let v := fun j => seedField q j (seedDefault .kiss j)
    .inr (seedWith mix1Kiss x 4 q (sanKiss ⟨⟨v 0, v 1⟩, v 2, v 3⟩))
  | .kiss2 =>
    let v := fun j => seedField q j (seedDefault .kiss2 j)
    .inr (seedWith mix1Kiss2 x 4 q (sanKiss2 ⟨u64 (v 0) (v 1), v 2, v 3⟩))
  | .lfib4 => (seedRingOr x q).map id fun b => ⟨b, 0⟩
  | .swb => (seedRingOr x q).map id fun b => ⟨b, 0, false⟩

/-! ### The generator commands -/

section
variable (u : UnitId) (s : State)

theorem exec_seedOf (x : Bool) :
    exec (seedOf x u) s =
      (seedUnit x s.mwcComb s.sq u).elim (fun c => trap c (seedOf x u) s)
        fun v => .next (setUnit u v (markSeeded u s)) := by
  cases u with
  | lfib4 =>
    refine (seedRingUnit_eq x _ s _).trans ?_
    rw [seedUnit]
    cases seedRingOr x s.sq <;> rfl
  | swb =>
    refine (seedRingUnit_eq x _ s _).trans ?_
    rw [seedUnit]
    cases seedRingOr x s.sq <;> rfl
  | _ => rfl

theorem exec_advOf :
    exec (advOf u) s =
      needSeeded u (advOf u) s
        { setUnit u (stepUnit u (s.unit u)) s with res := outUnit s.mwcComb u (stepUnit u (s.unit u)) } := by
  cases u <;> simp only [setUnit] <;> rfl

theorem exec_curOf :
    exec (curOf u) s = needSeeded u (curOf u) s { s with res := outUnit s.mwcComb u (s.unit u) } := by
  cases u <;> rfl

theorem exec_getstOf :
    exec (getstOf u) s = needSeeded u (getstOf u) s (putXb (tupleUnit u (s.unit u)) s) := by
  cases u <;> rfl

theorem exec_setstOf :
    exec (setstOf u) s =
      withStateVals (tupleLength u) (setstOf u) s fun v =>
        setUnit u (sanUnit u (untupleUnit u v)) (markSeeded u s) := by
  cases u <;> rfl

theorem exec_sanOf :
    exec (sanOf u) s = needSeeded u (sanOf u) s (setUnit u (sanUnit u (s.unit u)) s) := by
  cases u <;> rfl

theorem exec_jumpOf :
    exec (jumpOf u) s =
      (jumpUnit (jumpDistance s) u).elim (trap .unsup (jumpOf u) s) fun f =>
        needSeeded u (jumpOf u) s (setUnit u (f (s.unit u)) s) := by
  cases u <;> rfl

theorem exec_mixOf :
    exec (mixOf u) s =
      (mixUnit s.mwcComb u).elim (trap .unsup (mixOf u) s) fun f =>
        needSeeded u (mixOf u) s { setUnit u (foldExtras f 0 s.sq (s.unit u)) s with sq := [] } := by
  cases u <;> rfl

end

/-! ### Which operations give valid fields -/

theorem validUnit_map113 {f : Lane → Word → Word} {z : Lfsr113}
    (h : ∀ p ∈ lanes, ∀ w, laneOk p w → laneOk p (f p w)) (hz : validUnit .lfsr113 z) :
    validUnit .lfsr113 (map113 f z) := by
  obtain ⟨h₁, h₂, h₃, h₄⟩ := hz
  exact ⟨h _ (by decide) _ h₁, h _ (by decide) _ h₂, h _ (by decide) _ h₃, h _ (by decide) _ h₄⟩

theorem validUnit_map88 {f : Lane → Word → Word} {z : Lfsr88}
    (h : ∀ p ∈ lanes, ∀ w, laneOk p w → laneOk p (f p w)) (hz : validUnit .lfsr88 z) :
    validUnit .lfsr88 (map88 f z) := by
  obtain ⟨h₁, h₂, h₃⟩ := hz
  exact ⟨h _ (by decide) _ h₁, h _ (by decide) _ h₂, h _ (by decide) _ h₃⟩

theorem validUnit_stepUnit {u : UnitId} {v : UnitState u} (h : validUnit u v) : validUnit u (stepUnit u v) := by
  cases u with
  | cong => trivial
  | shr3 => exact stepShr3_ne_zero h
  | mwc => exact mwcOk_stepMwc h
  | mwc64 => exact mwc64Ok_stepMwc64 h
  | lfsr113 => exact validUnit_map113 (fun p hp _ => laneOk_laneStep (wellShaped_of_mem_lanes p hp)) h
  | lfsr88 => exact validUnit_map88 (fun p hp _ => laneOk_laneStep (wellShaped_of_mem_lanes p hp)) h
  | kiss => exact ⟨mwcOk_stepMwc h.1, stepShr3_ne_zero h.2⟩
  | kiss2 => exact ⟨mwc64Ok_stepMwc64 h.1, stepShr3_ne_zero h.2⟩
  | lfib4 => trivial
  | swb => trivial

theorem laneOk_laneSan_of_mem {p : Lane} (hp : p ∈ lanes) (z : Word) : laneOk p (laneSan p z) :=
  laneOk_laneSan (wellShaped_of_mem_lanes p hp) z

theorem laneOk_mixLane_of_mem {p : Lane} (hp : p ∈ lanes) (z w : Word) : laneOk p (mixLane p z w) :=
  laneOk_mixLane (wellShaped_of_mem_lanes p hp) z w

theorem validUnit_sanUnit (u : UnitId) (v : UnitState u) : validUnit u (sanUnit u v) := by
  cases u with
  | cong => trivial
  | shr3 => exact sanShr3_ne_zero v
  | mwc => exact mwcOk_sanMwc v
  | mwc64 => exact mwc64Ok_sanMwc64 v
  | lfsr113 =>
    exact ⟨laneOk_laneSan_of_mem (by decide) _, laneOk_laneSan_of_mem (by decide) _,
      laneOk_laneSan_of_mem (by decide) _, laneOk_laneSan_of_mem (by decide) _⟩
  | lfsr88 =>
    exact ⟨laneOk_laneSan_of_mem (by decide) _, laneOk_laneSan_of_mem (by decide) _,
      laneOk_laneSan_of_mem (by decide) _⟩
  | kiss => exact ⟨mwcOk_sanMwc _, sanShr3_ne_zero _⟩
  | kiss2 => exact ⟨mwc64Ok_sanMwc64 _, sanShr3_ne_zero _⟩
  | lfib4 => trivial
  | swb => trivial

theorem validUnit_of_mem_jumpUnit {n : Int} {u : UnitId} {f : UnitState u → UnitState u}
    (hf : jumpUnit n u = some f) {v : UnitState u} (h : validUnit u v) : validUnit u (f v) := by
  cases u with
  | cong => trivial
  | shr3 => cases hf; exact jumpShr3_ne_zero h n
  | mwc => cases hf; exact mwcOk_jumpMwc h n
  | mwc64 => cases hf; exact mwc64Ok_jumpMwc64 h n
  | lfsr113 => cases hf; exact validUnit_map113 (fun _ hp _ hz => laneOk_laneJump hp hz n) h
  | lfsr88 => cases hf; exact validUnit_map88 (fun _ hp _ hz => laneOk_laneJump hp hz n) h
  | kiss => cases hf; exact ⟨mwcOk_jumpMwc h.1 n, jumpShr3_ne_zero h.2 n⟩
  | kiss2 => cases hf; exact ⟨mwc64Ok_jumpMwc64 h.1 n, jumpShr3_ne_zero h.2 n⟩
  | lfib4 => trivial
  | swb => trivial

theorem validUnit_mix1Lfsr113 {z : Lfsr113} (h : validUnit .lfsr113 z) (w : Word) :
    validUnit .lfsr113 (mix1Lfsr113 z w) := by
  obtain ⟨h₁, h₂, h₃, h₄⟩ := h
  unfold mix1Lfsr113
  split
  · exact ⟨laneOk_mixLane_of_mem (by decide) _ _, h₂, h₃, h₄⟩
  · exact ⟨h₁, laneOk_mixLane_of_mem (by decide) _ _, h₃, h₄⟩
  · exact ⟨h₁, h₂, laneOk_mixLane_of_mem (by decide) _ _, h₄⟩
  · exact ⟨h₁, h₂, h₃, laneOk_mixLane_of_mem (by decide) _ _⟩

theorem validUnit_mix1Lfsr88 {z : Lfsr88} (h : validUnit .lfsr88 z) (w : Word) :
    validUnit .lfsr88 (mix1Lfsr88 z w) := by
  obtain ⟨h₁, h₂, h₃⟩ := h
  unfold mix1Lfsr88
  split
  · exact ⟨laneOk_mixLane_of_mem (by decide) _ _, h₂, h₃⟩
  · exact ⟨h₁, laneOk_mixLane_of_mem (by decide) _ _, h₃⟩
  · exact ⟨h₁, h₂, laneOk_mixLane_of_mem (by decide) _ _⟩

theorem validUnit_mix1Kiss {k : Kiss} (h : validUnit .kiss k) (w : Word) : validUnit .kiss (mix1Kiss k w) := by
  obtain ⟨hm, hy⟩ := h
  unfold mix1Kiss
  split
  · exact ⟨mwcOk_mix1Mwc false hm w, hy⟩
  · exact ⟨hm, hy⟩
  · exact ⟨hm, mix1Shr3_ne_zero _ w⟩

theorem validUnit_mix1Kiss2 {k : Kiss2} (h : validUnit .kiss2 k) (w : Word) :
    validUnit .kiss2 (mix1Kiss2 k w) := by
  obtain ⟨hm, hy⟩ := h
  unfold mix1Kiss2
  split
  · exact ⟨mwc64Ok_mix1Mwc64 _ w, hy⟩
  · exact ⟨hm, hy⟩
  · exact ⟨hm, mix1Shr3_ne_zero _ w⟩

theorem validUnit_of_mem_mixUnit {comb : Bool} {u : UnitId} {f : UnitState u → Word → UnitState u}
    (hf : mixUnit comb u = some f) {v : UnitState u} (h : validUnit u v) (w : Word) : validUnit u (f v w) := by
  cases u with
  | cong => trivial
  | shr3 => cases hf; exact mix1Shr3_ne_zero v w
  | mwc => cases hf; exact mwcOk_mix1Mwc comb h w
  | mwc64 => cases hf; exact mwc64Ok_mix1Mwc64 v w
  | lfsr113 => cases hf; exact validUnit_mix1Lfsr113 h w
  | lfsr88 => cases hf; exact validUnit_mix1Lfsr88 h w
  | kiss => cases hf; exact validUnit_mix1Kiss h w
  | kiss2 => cases hf; exact validUnit_mix1Kiss2 h w
  | lfib4 => trivial
  | swb => trivial

/-- Folding limbs in keeps what every single mix keeps (rule R169). -/
theorem foldExtras_preserves {σ : Type} (P : σ → Prop) {mix1 : σ → Word → σ}
    (h : ∀ st w, P st → P (mix1 st w)) (k : Nat) (q : List SqEntry) {st : σ} (hst : P st) :
    P (foldExtras mix1 k q st) :=
  List.foldlRecOn _ _ hst fun b hb w _ => h b w hb

theorem seedWith_preserves {σ : Type} (P : σ → Prop) {mix1 : σ → Word → σ}
    (h : ∀ st w, P st → P (mix1 st w)) (x : Bool) (k : Nat) (q : List SqEntry) {st : σ} (hst : P st) :
    P (seedWith mix1 x k q st) := by
  unfold seedWith
  split
  · exact foldExtras_preserves P h k q hst
  · exact hst

theorem validUnit_of_seedUnit {x comb : Bool} {q : List SqEntry} {u : UnitId} {v : UnitState u}
    (h : seedUnit x comb q u = .inr v) : validUnit u v := by
  have hmix (f : UnitState u → Word → UnitState u) (hf : mixUnit comb u = some f) (st : UnitState u) (w : Word)
      (hst : validUnit u st) : validUnit u (f st w) := validUnit_of_mem_mixUnit hf hst w
  cases u with
  | cong => trivial
  | shr3 => cases h; exact seedWith_preserves _ (hmix _ rfl) x _ q (sanShr3_ne_zero _)
  | mwc => cases h; exact seedWith_preserves _ (hmix _ rfl) x _ q (mwcOk_sanMwc _)
  | mwc64 => cases h; exact seedWith_preserves _ (hmix _ rfl) x _ q (mwc64Ok_sanMwc64 _)
  | lfsr113 =>
    cases h
    exact seedWith_preserves _ (hmix _ rfl) x _ q (validUnit_sanUnit .lfsr113 ⟨_, _, _, _⟩)
  | lfsr88 =>
    cases h
    exact seedWith_preserves _ (hmix _ rfl) x _ q (validUnit_sanUnit .lfsr88 ⟨_, _, _⟩)
  | kiss => cases h; exact seedWith_preserves _ (hmix _ rfl) x _ q (validUnit_sanUnit .kiss _)
  | kiss2 => cases h; exact seedWith_preserves _ (hmix _ rfl) x _ q (validUnit_sanUnit .kiss2 _)
  | lfib4 => trivial
  | swb => trivial

/-- A seeding fault is of the causes a command raises, E_UNSUP or E_SEEDLEN (rule R190). -/
theorem cause_of_seedUnit {x comb : Bool} {q : List SqEntry} {u : UnitId} {c : Cause}
    (h : seedUnit x comb q u = .inl c) : c = .unsup ∨ c = .seedLen := by
  have hring : ∀ {α : Type} {g : Table Word Config.ring → α}, (seedRingOr x q).map id g = .inl c →
      c = .unsup ∨ c = .seedLen := by
    intro α g hg
    unfold seedRingOr at hg
    split at hg
    · cases hg; exact .inl rfl
    · cases hr : seedRing q <;> rw [hr] at hg <;> cases hg
      exact .inr rfl
  cases u with
  | lfib4 => exact hring h
  | swb => exact hring h
  | _ => cases h

theorem length_tupleUnit (u : UnitId) (v : UnitState u) : (tupleUnit u v).length = tupleLength u := by
  cases u with
  | lfib4 => exact length_listFrom _ _ _
  | swb =>
    rw [tupleUnit, List.length_append, rotated, length_listFrom]
    rfl
  | _ => rfl

end Sys2Proof.Machine
end

section
/-! PROOFS. What a command can do, said once: `exec_effect` sorts the next state of every command by the kind
of the command, with the facts that the invariant of the engine needs. -/

namespace Sys2Proof.Laws.LegalEncoding

/-- The word of every command is legal by the fields (rule R61). -/
theorem all (i : Instr) : Statement i := by
  cases i
  exacts [nop, clrf, rst, sqclr, sqpush, sqpusha, sqpushw, sqpushx, munity _, mshift _, mmask _, madd _ _ _,
    mvmul _, mmul _ _ _, mpow _ _, mrom _ _, mget _, msetcol _,
    seedCong _, seedShr3 _, seedMwc _, seedMwc64 _, seedLfsr113 _, seedLfsr88 _, seedKiss _, seedKiss2 _,
    seedLfib4 _, seedSwb _,
    advCong, advShr3, advMwc, advMwc64, advLfsr113, advLfsr88, advKiss, advKiss2, advLfib4, advSwb,
    curCong, curShr3, curMwc, curMwc64, curLfsr113, curLfsr88, curKiss, curKiss2, curLfib4, curSwb,
    getstCong, getstShr3, getstMwc, getstMwc64, getstLfsr113, getstLfsr88, getstKiss, getstKiss2, getstLfib4,
    getstSwb,
    setstCong, setstShr3, setstMwc, setstMwc64, setstLfsr113, setstLfsr88, setstKiss, setstKiss2, setstLfib4,
    setstSwb,
    sanCong, sanShr3, sanMwc, sanMwc64, sanLfsr113, sanLfsr88, sanKiss, sanKiss2, sanLfib4, sanSwb,
    jumpCong, jumpShr3, jumpMwc, jumpMwc64, jumpLfsr113, jumpLfsr88, jumpKiss, jumpKiss2, jumpLfib4, jumpSwb,
    mixCong, mixShr3, mixMwc, mixMwc64, mixLfsr113, mixLfsr88, mixKiss, mixKiss2, mixLfib4, mixSwb]

end Sys2Proof.Laws.LegalEncoding

namespace Sys2Proof.Machine

/-! ### The commands by kind -/

/-- Case analysis of a command: the eighteen commands of no unit, and the eight generator operations on any
unit (rules R57, R59). -/
theorem Instr.casesByUnit {motive : Instr → Prop} (nop : motive .nop) (clrf : motive .clrf) (rst : motive .rst)
    (sqclr : motive .sqclr) (sqpush : motive .sqpush) (sqpusha : motive .sqpusha) (sqpushw : motive .sqpushw)
    (sqpushx : motive .sqpushx) (munity : ∀ d, motive (.munity d)) (mshift : ∀ d, motive (.mshift d))
    (mmask : ∀ d, motive (.mmask d)) (madd : ∀ d a b, motive (.madd d a b)) (mvmul : ∀ a, motive (.mvmul a))
    (mmul : ∀ d a b, motive (.mmul d a b)) (mpow : ∀ d a, motive (.mpow d a)) (mrom : ∀ d k, motive (.mrom d k))
    (mget : ∀ a, motive (.mget a)) (msetcol : ∀ d, motive (.msetcol d)) (seed : ∀ x u, motive (seedOf x u))
    (adv : ∀ u, motive (advOf u)) (cur : ∀ u, motive (curOf u)) (getst : ∀ u, motive (getstOf u))
    (setst : ∀ u, motive (setstOf u)) (san : ∀ u, motive (sanOf u)) (jump : ∀ u, motive (jumpOf u))
    (mix : ∀ u, motive (mixOf u)) (i : Instr) : motive i :=
  match i with
  | .nop => nop
  | .clrf => clrf
  | .rst => rst
  | .sqclr => sqclr
  | .sqpush => sqpush
  | .sqpusha => sqpusha
  | .sqpushw => sqpushw
  | .sqpushx => sqpushx
  | .munity d => munity d
  | .mshift d => mshift d
  | .mmask d => mmask d
  | .madd d a b => madd d a b
  | .mvmul a => mvmul a
  | .mmul d a b => mmul d a b
  | .mpow d a => mpow d a
  | .mrom d k => mrom d k
  | .mget a => mget a
  | .msetcol d => msetcol d
  | .seedCong x => seed x .cong
  | .seedShr3 x => seed x .shr3
  | .seedMwc x => seed x .mwc
  | .seedMwc64 x => seed x .mwc64
  | .seedLfsr113 x => seed x .lfsr113
  | .seedLfsr88 x => seed x .lfsr88
  | .seedKiss x => seed x .kiss
  | .seedKiss2 x => seed x .kiss2
  | .seedLfib4 x => seed x .lfib4
  | .seedSwb x => seed x .swb
  | .advCong => adv .cong
  | .advShr3 => adv .shr3
  | .advMwc => adv .mwc
  | .advMwc64 => adv .mwc64
  | .advLfsr113 => adv .lfsr113
  | .advLfsr88 => adv .lfsr88
  | .advKiss => adv .kiss
  | .advKiss2 => adv .kiss2
  | .advLfib4 => adv .lfib4
  | .advSwb => adv .swb
  | .curCong => cur .cong
  | .curShr3 => cur .shr3
  | .curMwc => cur .mwc
  | .curMwc64 => cur .mwc64
  | .curLfsr113 => cur .lfsr113
  | .curLfsr88 => cur .lfsr88
  | .curKiss => cur .kiss
  | .curKiss2 => cur .kiss2
  | .curLfib4 => cur .lfib4
  | .curSwb => cur .swb
  | .getstCong => getst .cong
  | .getstShr3 => getst .shr3
  | .getstMwc => getst .mwc
  | .getstMwc64 => getst .mwc64
  | .getstLfsr113 => getst .lfsr113
  | .getstLfsr88 => getst .lfsr88
  | .getstKiss => getst .kiss
  | .getstKiss2 => getst .kiss2
  | .getstLfib4 => getst .lfib4
  | .getstSwb => getst .swb
  | .setstCong => setst .cong
  | .setstShr3 => setst .shr3
  | .setstMwc => setst .mwc
  | .setstMwc64 => setst .mwc64
  | .setstLfsr113 => setst .lfsr113
  | .setstLfsr88 => setst .lfsr88
  | .setstKiss => setst .kiss
  | .setstKiss2 => setst .kiss2
  | .setstLfib4 => setst .lfib4
  | .setstSwb => setst .swb
  | .sanCong => san .cong
  | .sanShr3 => san .shr3
  | .sanMwc => san .mwc
  | .sanMwc64 => san .mwc64
  | .sanLfsr113 => san .lfsr113
  | .sanLfsr88 => san .lfsr88
  | .sanKiss => san .kiss
  | .sanKiss2 => san .kiss2
  | .sanLfib4 => san .lfib4
  | .sanSwb => san .swb
  | .jumpCong => jump .cong
  | .jumpShr3 => jump .shr3
  | .jumpMwc => jump .mwc
  | .jumpMwc64 => jump .mwc64
  | .jumpLfsr113 => jump .lfsr113
  | .jumpLfsr88 => jump .lfsr88
  | .jumpKiss => jump .kiss
  | .jumpKiss2 => jump .kiss2
  | .jumpLfib4 => jump .lfib4
  | .jumpSwb => jump .swb
  | .mixCong => mix .cong
  | .mixShr3 => mix .shr3
  | .mixMwc => mix .mwc
  | .mixMwc64 => mix .mwc64
  | .mixLfsr113 => mix .lfsr113
  | .mixLfsr88 => mix .lfsr88
  | .mixKiss => mix .kiss
  | .mixKiss2 => mix .kiss2
  | .mixLfib4 => mix .lfib4
  | .mixSwb => mix .swb

/-- The command `i` names matrix register `d` as its destination. -/
def WritesMat (i : Instr) (d : MReg) : Prop :=
  i = .munity d ∨ i = .mshift d ∨ i = .mmask d ∨ i = .msetcol d ∨ (∃ k, i = .mrom d k) ∨
    ∃ a b, i = .madd d a b ∨ i = .mmul d a b ∨ i = .mpow d a

/-! ### The next states -/

/-- The next states a command can have, by its kind. The premises on the values written are what the
invariant `State.Sound` asks of them. -/
inductive Effect (s : State) : Instr → State → Prop where
  /-- a fault, of a cause that is of a command's own (rules R212, R214) -/
  | fault (i : Instr) (c : Cause) (hbus : c ≠ .bus) (hillegal : c ≠ .illegal) :
      Effect s i (raiseFault c (encode i) s)
  | nop : Effect s .nop s
  | clrf : Effect s .clrf (clearFault s)
  | rst : Effect s .rst (resetEngine s)
  /-- a command of the seed queue -/
  | queue (i : Instr) (q : List SqEntry) (hi : i ∈ [.sqclr, .sqpush, .sqpusha, .sqpushw, .sqpushx])
      (hq : q.length ≤ Config.sqDepth) : Effect s i { s with sq := q }
  | mvmul (a : MReg) (w : Word) : Effect s (.mvmul a) { s with res := w }
  /-- a matrix command with a destination -/
  | matrix (i : Instr) (d : MReg) (m : Mat) (hi : WritesMat i d)
      (hm : (∀ r, matOk (s.mat r)) → matOk m) : Effect s i (setMat d m s)
  | mget (a : MReg) (l : List Word) (hl : l.length ≤ Config.nMax) : Effect s (.mget a) (putXb l s)
  | seed (x : Bool) (u : UnitId) (v : UnitState u) (hv : validUnit u v) :
      Effect s (seedOf x u) (setUnit u v (markSeeded u s))
  | adv (u : UnitId) (v : UnitState u) (w : Word) (hv : validUnit u (s.unit u) → validUnit u v)
      (hu : s.isSeeded u = true) : Effect s (advOf u) { setUnit u v s with res := w }
  | cur (u : UnitId) (w : Word) : Effect s (curOf u) { s with res := w }
  | getst (u : UnitId) (l : List Word) (hl : l.length = tupleLength u) : Effect s (getstOf u) (putXb l s)
  | setst (u : UnitId) (v : UnitState u) (hv : validUnit u v) :
      Effect s (setstOf u) (setUnit u v (markSeeded u s))
  | san (u : UnitId) (v : UnitState u) (hv : validUnit u v) : Effect s (sanOf u) (setUnit u v s)
  | jump (u : UnitId) (v : UnitState u) (hv : validUnit u (s.unit u) → validUnit u v)
      (hu : s.isSeeded u = true) : Effect s (jumpOf u) (setUnit u v s)
  | mix (u : UnitId) (v : UnitState u) (hv : validUnit u (s.unit u) → validUnit u v)
      (hu : s.isSeeded u = true) : Effect s (mixOf u) { setUnit u v s with sq := [] }

section
variable {s t : State} {i : Instr}

theorem effect_of_trap {c : Cause} (h : trap c i s = .next t) (hbus : c ≠ .bus) (hillegal : c ≠ .illegal) :
    Effect s i t := by
  rw [trap_next h]
  exact .fault i c hbus hillegal

theorem effect_of_pushEntries {l : List SqEntry} (h : pushEntries l i s = .next t)
    (hi : i ∈ [.sqclr, .sqpush, .sqpusha, .sqpushw, .sqpushx]) : Effect s i t := by
  obtain ⟨hfit, rfl⟩ | ⟨-, rfl⟩ := pushEntries_next h
  · exact .queue i _ hi (by rwa [List.length_append])
  · exact .fault i _ (by decide) (by decide)

theorem effect_of_buildMat {d : MReg} {m : Mat} (h : buildMat d i m s = .next t) (hi : WritesMat i d)
    (hm : widthOperand s ≤ Config.nMax → matOk m) : Effect s i t := by
  obtain ⟨hw, rfl⟩ | ⟨-, rfl⟩ := buildMat_next h
  · refine .matrix i d m hi fun _ => hm ?_
    simp only [legalWidth, Bool.and_eq_true, decide_eq_true_eq] at hw
    exact hw.2
  · exact .fault i _ (by decide) (by decide)

theorem effect_of_combineMats {d a b : MReg} {f : Mat → Mat → Mat} (h : combineMats d a b i f s = .next t)
    (hi : WritesMat i d) (hf : ∀ p q, matOk p → matOk q → p.n = q.n → matOk (f p q)) : Effect s i t := by
  obtain ⟨-, rfl⟩ | ⟨-, -, -, rfl⟩ | ⟨-, hw, rfl⟩ := combineMats_next h
  · exact .fault i _ (by decide) (by decide)
  · exact .fault i _ (by decide) (by decide)
  · exact .matrix i d _ hi fun hs => hf _ _ (hs a) (hs b) hw

/-- A command on a seeded unit that ends in `done`. -/
theorem effect_of_needSeeded {u : UnitId} {done : State} (h : needSeeded u i s done = .next t)
    (hdone : s.isSeeded u = true → Effect s i done) : Effect s i t := by
  obtain ⟨hu, rfl⟩ | ⟨-, rfl⟩ := needSeeded_next h
  · exact hdone hu
  · exact .fault i _ (by decide) (by decide)

end

/-- The next state of every command, by the command's kind. -/
theorem exec_effect {i : Instr} {s t : State} (h : exec i s = .next t) : Effect s i t := by
  induction i using Instr.casesByUnit with
  | nop => cases h; exact .nop
  | clrf => cases h; exact .clrf
  | rst => cases h; exact .rst
  | sqclr => cases h; exact .queue _ _ (by decide) (Nat.zero_le _)
  | sqpush => exact effect_of_pushEntries h (by decide)
  | sqpusha => exact effect_of_pushEntries h (by decide)
  | sqpushw => exact effect_of_pushEntries h (by decide)
  | sqpushx => exact effect_of_pushEntries h (by decide)
  | munity d => exact effect_of_buildMat h (by simp [WritesMat]) matOk_unity
  | mshift d => exact effect_of_buildMat h (by simp [WritesMat]) fun hn => matOk_shiftMat hn _
  | mmask d => exact effect_of_buildMat h (by simp [WritesMat]) fun hn => matOk_maskMat hn _ _
  | madd d a b => exact effect_of_combineMats h (by simp [WritesMat]) fun _ _ => matOk_matAdd
  | mmul d a b => exact effect_of_combineMats h (by simp [WritesMat]) fun _ q hp _ _ => matOk_matMul hp q
  | mrom d k => cases h; exact .matrix _ d _ (by simp [WritesMat]) fun _ => matOk_rom k
  | mpow d a =>
    simp only [exec, execMpow] at h
    split at h
    · exact effect_of_trap h (by decide) (by decide)
    · cases h; exact .matrix _ d _ (by simp [WritesMat]) fun hs => matOk_matPow (hs a) _
  | msetcol d =>
    simp only [exec, execMsetcol] at h
    split at h
    · exact effect_of_trap h (by decide) (by decide)
    split at h
    · exact effect_of_trap h (by decide) (by decide)
    split at h
    · exact effect_of_trap h (by decide) (by decide)
    · next hcol hwide =>
      cases h
      exact .matrix _ d _ (by simp [WritesMat]) fun hs =>
        matOk_setColumn (hs d) (Nat.lt_of_not_le hcol) (toNat_lt_of_not_tooWide (by simpa using hwide))
  | mvmul a =>
    simp only [exec, execMvmul] at h
    split at h
    · exact effect_of_trap h (by decide) (by decide)
    split at h
    · exact effect_of_trap h (by decide) (by decide)
    · cases h; exact .mvmul a _
  | mget a =>
    simp only [exec, execMget] at h
    split at h
    · exact effect_of_trap h (by decide) (by decide)
    · cases h
      exact .mget a _ ((List.length_take_le' _ _).trans_eq (s.mat a).col.length_toList)
  | seed x u =>
    rw [exec_seedOf] at h
    cases hv : seedUnit x s.mwcComb s.sq u with
    | inl c =>
      rw [hv] at h
      obtain rfl | rfl := cause_of_seedUnit hv <;> exact effect_of_trap h (by decide) (by decide)
    | inr v =>
      rw [hv] at h
      cases h
      exact .seed x u v (validUnit_of_seedUnit hv)
  | adv u =>
    rw [exec_advOf] at h
    exact effect_of_needSeeded h (.adv u _ _ validUnit_stepUnit)
  | cur u =>
    rw [exec_curOf] at h
    exact effect_of_needSeeded h fun _ => .cur u _
  | getst u =>
    rw [exec_getstOf] at h
    exact effect_of_needSeeded h fun _ => .getst u _ (length_tupleUnit u _)
  | setst u =>
    rw [exec_setstOf] at h
    obtain ⟨v, -, rfl⟩ | ⟨-, rfl⟩ := withStateVals_next h
    · exact .setst u _ (validUnit_sanUnit u _)
    · exact .fault _ _ (by decide) (by decide)
  | san u =>
    rw [exec_sanOf] at h
    exact effect_of_needSeeded h fun _ => .san u _ (validUnit_sanUnit u _)
  | jump u =>
    rw [exec_jumpOf] at h
    cases hf : jumpUnit (jumpDistance s) u with
    | none =>
      rw [hf] at h
      exact effect_of_trap h (by decide) (by decide)
    | some f =>
      rw [hf] at h
      exact effect_of_needSeeded h (.jump u _ (validUnit_of_mem_jumpUnit hf))
  | mix u =>
    rw [exec_mixOf] at h
    cases hf : mixUnit s.mwcComb u with
    | none =>
      rw [hf] at h
      exact effect_of_trap h (by decide) (by decide)
    | some f =>
      rw [hf] at h
      exact effect_of_needSeeded h (.mix u _ fun hv =>
        foldExtras_preserves (validUnit u) (fun _ w hst => validUnit_of_mem_mixUnit hf hst w) 0 s.sq hv)

end Sys2Proof.Machine
end

section
/-! PROOFS. Frames: which commands write the shared registers, and which the fields and valid bit of a unit
(rules R16 to R27, R39, R170). -/

namespace Sys2Proof.Machine

section
variable {s t : State} {i : Instr}

theorem res_writers (h : Effect s i t) (hrst : i ≠ .rst) (hne : t.res ≠ s.res) :
    (∃ a, i = .mvmul a) ∨ ∃ u, i = advOf u ∨ i = curOf u := by
  cases h with
  | rst => exact absurd rfl hrst
  | mvmul a w => exact .inl ⟨a, rfl⟩
  | adv u v w => exact .inr ⟨u, .inl rfl⟩
  | cur u w => exact .inr ⟨u, .inr rfl⟩
  | _ => simp at hne

theorem args_unchanged (h : Effect s i t) (hrst : i ≠ .rst) :
    t.arg0 = s.arg0 ∧ t.arg1 = s.arg1 ∧ t.arg2 = s.arg2 ∧ t.mwcComb = s.mwcComb := by
  cases h with
  | rst => exact absurd rfl hrst
  | _ => simp

theorem host_unchanged (h : Effect s i t) (hrst : i ≠ .rst) : t.inbox = s.inbox ∧ t.hostData = s.hostData := by
  cases h with
  | rst => exact absurd rfl hrst
  | _ => simp

theorem mat_writers (h : Effect s i t) (hrst : i ≠ .rst) {r : MReg} (hne : t.mat r ≠ s.mat r) : WritesMat i r := by
  cases h with
  | rst => exact absurd rfl hrst
  | matrix _ d m hi =>
    rw [mat_setMat] at hne
    split at hne
    · next hd => exact hd ▸ hi
    · exact absurd rfl hne
  | _ => simp [State.mat] at hne

theorem exchange_writers (h : Effect s i t) (hrst : i ≠ .rst) (hne : t.xb ≠ s.xb ∨ t.xlen ≠ s.xlen) :
    (∃ a, i = .mget a) ∨ ∃ u, i = getstOf u := by
  cases h with
  | rst => exact absurd rfl hrst
  | mget a l => exact .inl ⟨a, rfl⟩
  | getst u l => exact .inr ⟨u, rfl⟩
  | _ => simp at hne

theorem queue_writers (h : Effect s i t) (hrst : i ≠ .rst) (hne : t.sq ≠ s.sq) :
    i ∈ [.sqclr, .sqpush, .sqpusha, .sqpushw, .sqpushx] ∨
      ∃ u, (∃ x, i = seedOf x u) ∨ i = setstOf u ∨ i = mixOf u := by
  cases h with
  | rst => exact absurd rfl hrst
  | queue _ q hi => exact .inl hi
  | seed x u => exact .inr ⟨u, .inl ⟨x, rfl⟩⟩
  | setst u => exact .inr ⟨u, .inr (.inl rfl)⟩
  | mix u => exact .inr ⟨u, .inr (.inr rfl)⟩
  | _ => simp at hne

end

/-- Settles O55, register by register from the effect of the command. -/
theorem writersOfSharedRegisters : Obligations.WritersOfSharedRegisters := by
  intro i s t h hrst
  have he := exec_effect h
  refine ⟨res_writers he hrst, args_unchanged he hrst, fun _ => mat_writers he hrst, exchange_writers he hrst,
    fun hne => ?_, host_unchanged he hrst⟩
  simpa only [List.mem_cons, List.not_mem_nil, or_false, or_assoc] using queue_writers he hrst hne

/-! ### The units -/

theorem seedOf_mem_unitCommands (x : Bool) (u : UnitId) : seedOf x u ∈ unitCommands u := by
  cases x <;> simp [unitCommands]

/-- The commands of a unit. -/
theorem mem_unitCommands {i : Instr} {u : UnitId} :
    i ∈ unitCommands u ↔ (∃ x, i = seedOf x u) ∨ i = advOf u ∨ i = curOf u ∨ i = getstOf u ∨ i = setstOf u ∨
      i = sanOf u ∨ i = jumpOf u ∨ i = mixOf u := by
  simp [unitCommands, Bool.exists_bool, or_assoc]

/-- Case analysis of a command of unit `u`. -/
theorem cases_of_mem_unitCommands {motive : Instr → Prop} {i : Instr} {u : UnitId} (h : i ∈ unitCommands u)
    (seed : ∀ x, motive (seedOf x u)) (adv : motive (advOf u)) (cur : motive (curOf u))
    (getst : motive (getstOf u)) (setst : motive (setstOf u)) (san : motive (sanOf u))
    (jump : motive (jumpOf u)) (mix : motive (mixOf u)) : motive i := by
  obtain ⟨x, rfl⟩ | rfl | rfl | rfl | rfl | rfl | rfl | rfl := mem_unitCommands.mp h
  exacts [seed x, adv, cur, getst, setst, san, jump, mix]

section
variable {s t : State} {i : Instr} {u : UnitId}

/-- A state update that writes neither generator fields nor valid bits leaves every unit alone. -/
theorem unit_unchanged_of_eq (u : UnitId) (h : withUnitsOf s t = t) (hseeded : t.seeded = s.seeded) :
    t.unit u = s.unit u ∧ t.isSeeded u = s.isSeeded u :=
  ⟨unit_eq_of_withUnitsOf h u, congrArg (·.get (unitIndex u)) hseeded⟩

/-- Writing another unit's fields leaves this unit alone. -/
theorem unit_unchanged_setUnit {w : UnitId} (h : w ≠ u) (v : UnitState w) (s : State) :
    (setUnit w v s).unit u = s.unit u ∧ (setUnit w v s).isSeeded u = s.isSeeded u :=
  ⟨unit_setUnit_of_ne h v s, congrArg (·.get (unitIndex u)) (setUnit_seeded w v s)⟩

/-- Seeding another unit leaves this unit alone. -/
theorem unit_unchanged_seed {w : UnitId} (h : w ≠ u) (v : UnitState w) (s : State) :
    (setUnit w v (markSeeded w s)).unit u = s.unit u ∧
      (setUnit w v (markSeeded w s)).isSeeded u = s.isSeeded u := by
  obtain ⟨hunit, hseeded⟩ := unit_unchanged_setUnit h v (markSeeded w s)
  rw [hunit, hseeded, isSeeded_markSeeded, decide_eq_false h, Bool.false_or]
  exact ⟨unit_eq_of_withUnitsOf rfl u, rfl⟩

/-- A command of no other kind than a unit's own nine and RST leaves the unit alone. -/
theorem unit_unchanged (h : Effect s i t) (hrst : i ≠ .rst) (hi : i ∉ unitCommands u) :
    t.unit u = s.unit u ∧ t.isSeeded u = s.isSeeded u := by
  rw [mem_unitCommands] at hi
  cases h with
  | rst => exact absurd rfl hrst
  | seed x w v => exact unit_unchanged_seed (fun e => hi (.inl ⟨x, by rw [e]⟩)) v s
  | setst w v => exact unit_unchanged_seed (fun e => hi (by simp [e])) v s
  | adv w v r => exact unit_unchanged_setUnit (fun e => hi (by simp [e])) v s
  | san w v => exact unit_unchanged_setUnit (fun e => hi (by simp [e])) v s
  | jump w v => exact unit_unchanged_setUnit (fun e => hi (by simp [e])) v s
  | mix w v => exact unit_unchanged_setUnit (fun e => hi (by simp [e])) v s
  | _ => exact unit_unchanged_of_eq u rfl rfl

/-- A command but RST keeps the valid bits, save that SEED and SETST set their unit's. -/
theorem isSeeded_effect (u : UnitId) (h : Effect s i t) (hrst : i ≠ .rst) :
    t.isSeeded u = s.isSeeded u ∨ (t.isSeeded u = true ∧ ((∃ x, i = seedOf x u) ∨ i = setstOf u)) := by
  have hbit (w : UnitId) (v : UnitState w) :
      (setUnit w v (markSeeded w s)).isSeeded u = (decide (w = u) || s.isSeeded u) := by
    rw [← isSeeded_markSeeded]
    exact congrArg (·.get (unitIndex u)) (setUnit_seeded w v _)
  cases h with
  | rst => exact absurd rfl hrst
  | seed x w v =>
    by_cases hw : w = u
    · subst hw
      exact .inr ⟨by simp [hbit], .inl ⟨x, rfl⟩⟩
    · exact .inl (by simp [hbit, hw])
  | setst w v =>
    by_cases hw : w = u
    · subst hw
      exact .inr ⟨by simp [hbit], .inr rfl⟩
    · exact .inl (by simp [hbit, hw])
  | _ => exact .inl (by simp [State.isSeeded])

end

theorem isSeeded_reset (u : UnitId) : State.reset.isSeeded u = false :=
  Table.get_fill _ _

/-- Settles O56, from the effect of the command on the unit and on its valid bit. -/
theorem unitsAreIndependent : Obligations.UnitsAreIndependent := by
  intro u i s t h
  have he := exec_effect h
  refine ⟨fun hi hrst => ?_, fun hs hrst => ?_, fun hs ht => ?_⟩
  · obtain ⟨hunit, hseeded⟩ := unit_unchanged he hrst hi
    exact ⟨sameUnit_iff.mpr hunit.symm, hseeded⟩
  · obtain hsame | ⟨hset, -⟩ := isSeeded_effect u he hrst
    · rw [hsame, hs]
    · exact hset
  · by_cases hrst : i = .rst
    · subst hrst
      cases h
      rw [show (resetEngine s).isSeeded u = false from isSeeded_reset u] at ht
      exact absurd ht (by decide)
    · obtain hsame | ⟨-, hi⟩ := isSeeded_effect u he hrst
      · rw [hsame, hs] at ht
        exact absurd ht (by decide)
      · exact hi

end Sys2Proof.Machine
end

section
/-! PROOFS. Nothing depends on the fields of an unseeded unit (rules R27, R40, R231). A pair of states that
differ in such fields only is a state `t` beside `withUnitsOf s t`. A command of no unit runs alike with any
generator fields; a command of a unit runs on fields that agree, or faults, or writes the fields anew. -/

namespace Sys2Proof.Machine

/-! ### Pairs of states that differ in unseeded units only -/

theorem sameSeen_iff {s t : State} :
    sameSeen s t ↔ withUnitsOf s t = s ∧ ∀ u, s.isSeeded u = true → s.unit u = t.unit u :=
  and_congr_right' (forall₂_congr fun _ _ => sameUnit_iff)

theorem sameSeen_refl (s : State) : sameSeen s s :=
  sameSeen_iff.mpr ⟨rfl, fun _ _ => rfl⟩

theorem isSeeded_eq_of_sameSeen {s t : State} (h : sameSeen s t) (u : UnitId) : s.isSeeded u = t.isSeeded u :=
  (congrArg (State.isSeeded · u) h.1).symm

/-- An update that neither reads nor writes generator fields, nor writes valid bits. -/
def SharedUpdate (f : State → State) : Prop :=
  ∀ s t, f (withUnitsOf s t) = withUnitsOf s (f t) ∧ (f t).seeded = t.seeded

theorem sameSeen_update {f : State → State} (hf : SharedUpdate f) {s t : State} (h : sameSeen s t) :
    sameSeen (f s) (f t) := by
  obtain ⟨hs, hu⟩ := sameSeen_iff.mp h
  have hfs : f s = withUnitsOf s (f t) := by rw [← (hf s t).1, hs]
  refine sameSeen_iff.mpr ⟨by rw [hfs]; rfl, fun u hsu => ?_⟩
  have hunit := (unit_unchanged_of_eq u (hf t t).1.symm (hf t t).2).1
  rw [hfs, unit_withUnitsOf, hunit]
  exact hu u (by rwa [State.isSeeded, (hf s s).2] at hsu)

theorem sharedUpdate_raiseFault (c : Cause) (w : Word) : SharedUpdate (raiseFault c w) :=
  fun _ _ => ⟨rfl, rfl⟩

theorem withUnitsOf_setUnit (u : UnitId) (v : UnitState u) (s t : State) :
    withUnitsOf (setUnit u v s) (setUnit u v t) = setUnit u v (withUnitsOf s t) := by
  cases u <;> rfl

/-- Writing the same fields into a unit of both states. -/
theorem sameSeen_setUnit {s t : State} (h : sameSeen s t) (u : UnitId) (v : UnitState u) :
    sameSeen (setUnit u v s) (setUnit u v t) := by
  obtain ⟨hs, hu⟩ := sameSeen_iff.mp h
  refine sameSeen_iff.mpr ⟨by rw [withUnitsOf_setUnit, hs], fun w hw => ?_⟩
  by_cases huw : u = w
  · subst huw
    rw [unit_setUnit_self, unit_setUnit_self]
  · obtain ⟨hunit, hseeded⟩ := unit_unchanged_setUnit huw v s
    rw [hunit, unit_setUnit_of_ne huw]
    exact hu w (hseeded ▸ hw)

/-- Seeding a unit of both states with the same fields. -/
theorem sameSeen_seed {s t : State} (h : sameSeen s t) (u : UnitId) (v : UnitState u) :
    sameSeen (setUnit u v (markSeeded u s)) (setUnit u v (markSeeded u t)) := by
  obtain ⟨hs, hu⟩ := sameSeen_iff.mp h
  have hmark : withUnitsOf (markSeeded u s) (markSeeded u t) = markSeeded u s := congrArg (markSeeded u) hs
  refine sameSeen_iff.mpr ⟨by rw [withUnitsOf_setUnit, hmark], fun w hw => ?_⟩
  by_cases huw : u = w
  · subst huw
    rw [unit_setUnit_self, unit_setUnit_self]
  · obtain ⟨hunit, hseeded⟩ := unit_unchanged_seed huw v s
    rw [hunit, (unit_unchanged_seed huw v t).1]
    exact hu w (hseeded ▸ hw)

/-! ### Commands of no unit -/

/-- The outcome with its next state changed. -/
def mapNext (f : State → State) : Result → Result
  | .next s => .next (f s)
  | .fault r => .fault r
  | .refused r => .refused r

section
variable (i : Instr) (s t : State)

theorem pushEntries_withUnitsOf (l : List SqEntry) :
    pushEntries l i (withUnitsOf s t) = mapNext (withUnitsOf s) (pushEntries l i t) := by
  simp only [pushEntries, apply_ite (mapNext _)]
  rfl

theorem buildMat_withUnitsOf (d : MReg) (m : Mat) :
    buildMat d i m (withUnitsOf s t) = mapNext (withUnitsOf s) (buildMat d i m t) := by
  simp only [buildMat, apply_ite (mapNext _)]
  rfl

theorem combineMats_withUnitsOf (d a b : MReg) (f : Mat → Mat → Mat) :
    combineMats d a b i f (withUnitsOf s t) = mapNext (withUnitsOf s) (combineMats d a b i f t) := by
  simp only [combineMats, apply_ite (mapNext _)]
  rfl

end

/-- A command of no unit does the same whatever the generator fields hold. -/
theorem exec_withUnitsOf {i : Instr} (hrst : i ≠ .rst) (hi : ∀ u, i ∉ unitCommands u) (s t : State) :
    exec i (withUnitsOf s t) = mapNext (withUnitsOf s) (exec i t) := by
  induction i using Instr.casesByUnit with
  | nop => rfl
  | clrf => rfl
  | rst => exact absurd rfl hrst
  | sqclr => rfl
  | sqpush => exact pushEntries_withUnitsOf _ s t _
  | sqpusha => exact pushEntries_withUnitsOf _ s t _
  | sqpushw => exact pushEntries_withUnitsOf _ s t _
  | sqpushx => exact pushEntries_withUnitsOf _ s t _
  | munity d => exact buildMat_withUnitsOf _ s t d _
  | mshift d => exact buildMat_withUnitsOf _ s t d _
  | mmask d => exact buildMat_withUnitsOf _ s t d _
  | madd d a b => exact combineMats_withUnitsOf _ s t d a b _
  | mmul d a b => exact combineMats_withUnitsOf _ s t d a b _
  | mrom d k => rfl
  | mvmul a => simp only [exec, execMvmul, apply_ite (mapNext _)]; rfl
  | mpow d a => simp only [exec, execMpow, apply_ite (mapNext _)]; rfl
  | mget a => simp only [exec, execMget, apply_ite (mapNext _)]; rfl
  | msetcol d => simp only [exec, execMsetcol, apply_ite (mapNext _)]; rfl
  | seed x u => exact absurd (seedOf_mem_unitCommands x u) (hi u)
  | adv u => exact absurd (by simp [unitCommands]) (hi u)
  | cur u => exact absurd (by simp [unitCommands]) (hi u)
  | getst u => exact absurd (by simp [unitCommands]) (hi u)
  | setst u => exact absurd (by simp [unitCommands]) (hi u)
  | san u => exact absurd (by simp [unitCommands]) (hi u)
  | jump u => exact absurd (by simp [unitCommands]) (hi u)
  | mix u => exact absurd (by simp [unitCommands]) (hi u)

/-! ### Every command completes -/

/-- The outcome is a next state. -/
def Completes (r : Result) : Prop :=
  ∃ t, r = .next t

theorem completes_next (t : State) : Completes (.next t) :=
  ⟨t, rfl⟩

theorem completes_trap (c : Cause) (i : Instr) (s : State) : Completes (trap c i s) :=
  completes_next _

theorem completes_ite {p : Prop} [Decidable p] {a b : Result} (ha : Completes a) (hb : Completes b) :
    Completes (if p then a else b) := by
  split
  · exact ha
  · exact hb

section
variable (i : Instr) (s : State)

theorem completes_needSeeded (u : UnitId) (done : State) : Completes (needSeeded u i s done) :=
  completes_ite (completes_next _) (completes_trap _ i s)

theorem completes_pushEntries (l : List SqEntry) : Completes (pushEntries l i s) :=
  completes_ite (completes_trap _ i s) (completes_next _)

theorem completes_buildMat (d : MReg) (m : Mat) : Completes (buildMat d i m s) :=
  completes_ite (completes_next _) (completes_trap _ i s)

theorem completes_combineMats (d a b : MReg) (f : Mat → Mat → Mat) : Completes (combineMats d a b i f s) :=
  completes_ite (completes_trap _ i s) (completes_ite (completes_trap _ i s) (completes_next _))

theorem completes_withStateVals (k : Nat) (done : Table Word k → State) :
    Completes (withStateVals k i s done) := by
  unfold withStateVals
  split
  · exact completes_trap _ i s
  · exact completes_next _

end

/-- Every command completes: the spec's faults are next states (rules R209, R232). -/
theorem completes_exec (i : Instr) (s : State) : Completes (exec i s) := by
  induction i using Instr.casesByUnit with
  | nop => exact completes_next _
  | clrf => exact completes_next _
  | rst => exact completes_next _
  | sqclr => exact completes_next _
  | sqpush => exact completes_pushEntries _ s _
  | sqpusha => exact completes_pushEntries _ s _
  | sqpushw => exact completes_pushEntries _ s _
  | sqpushx => exact completes_pushEntries _ s _
  | munity d => exact completes_buildMat _ s d _
  | mshift d => exact completes_buildMat _ s d _
  | mmask d => exact completes_buildMat _ s d _
  | madd d a b => exact completes_combineMats _ s d a b _
  | mmul d a b => exact completes_combineMats _ s d a b _
  | mrom d k => exact completes_next _
  | mvmul a =>
    exact completes_ite (completes_trap _ _ s) (completes_ite (completes_trap _ _ s) (completes_next _))
  | mpow d a => exact completes_ite (completes_trap _ _ s) (completes_next _)
  | mget a => exact completes_ite (completes_trap _ _ s) (completes_next _)
  | msetcol d =>
    exact completes_ite (completes_trap _ _ s)
      (completes_ite (completes_trap _ _ s) (completes_ite (completes_trap _ _ s) (completes_next _)))
  | seed x u =>
    rw [exec_seedOf]
    cases seedUnit x s.mwcComb s.sq u with
    | inl c => exact completes_trap c _ s
    | inr v => exact completes_next _
  | adv u => rw [exec_advOf]; exact completes_needSeeded _ s u _
  | cur u => rw [exec_curOf]; exact completes_needSeeded _ s u _
  | getst u => rw [exec_getstOf]; exact completes_needSeeded _ s u _
  | setst u => rw [exec_setstOf]; exact completes_withStateVals _ s _ _
  | san u => rw [exec_sanOf]; exact completes_needSeeded _ s u _
  | jump u =>
    rw [exec_jumpOf]
    cases jumpUnit (jumpDistance s) u with
    | none => exact completes_trap _ _ s
    | some f => exact completes_needSeeded _ s u _
  | mix u =>
    rw [exec_mixOf]
    cases mixUnit s.mwcComb u with
    | none => exact completes_trap _ _ s
    | some f => exact completes_needSeeded _ s u _

/-! ### Runs of a pair -/

/-- Both outcomes are next states, and these differ in unseeded units only. -/
def SameOutcome (a b : Result) : Prop :=
  ∃ s t, a = .next s ∧ b = .next t ∧ sameSeen s t

section
variable {s t : State} (h : sameSeen s t)
include h

theorem sameOutcome_next : SameOutcome (.next s) (.next t) :=
  ⟨s, t, rfl, rfl, h⟩

theorem sameOutcome_trap (c : Cause) (i : Instr) : SameOutcome (trap c i s) (trap c i t) :=
  sameOutcome_next (sameSeen_update (sharedUpdate_raiseFault c (encode i)) h)

/-- A command that needs its unit seeded sees the same fields in both states, or faults in both. -/
theorem sameOutcome_needSeeded (u : UnitId) (i : Instr) {doneS doneT : State}
    (hdone : s.unit u = t.unit u → sameSeen doneS doneT) :
    SameOutcome (needSeeded u i s doneS) (needSeeded u i t doneT) := by
  have hbit := isSeeded_eq_of_sameSeen h u
  unfold needSeeded
  rw [← hbit]
  split
  · next hu => exact sameOutcome_next (hdone ((sameSeen_iff.mp h).2 u hu))
  · exact sameOutcome_trap h _ i

/-- A command of no unit and not RST. -/
theorem sameOutcome_exec_shared {i : Instr} (hrst : i ≠ .rst) (hi : ∀ u, i ∉ unitCommands u) :
    SameOutcome (exec i s) (exec i t) := by
  obtain ⟨hs, hu⟩ := sameSeen_iff.mp h
  obtain ⟨t', ht'⟩ := completes_exec i t
  refine ⟨withUnitsOf s t', t', ?_, ht', sameSeen_iff.mpr ⟨rfl, fun u hsu => ?_⟩⟩
  · calc exec i s = exec i (withUnitsOf s t) := by rw [hs]
      _ = .next (withUnitsOf s t') := by rw [exec_withUnitsOf hrst hi, ht']; rfl
  · obtain ⟨hunit, hseeded⟩ := unit_unchanged (exec_effect ht') hrst (hi u)
    have hsu : t'.isSeeded u = true := hsu
    rw [unit_withUnitsOf, hunit]
    exact hu u (by rw [isSeeded_eq_of_sameSeen h u, ← hseeded, hsu])

/-- A reset leaves nothing of the generator fields. -/
theorem sameOutcome_reset : SameOutcome (.next (resetEngine s)) (.next (resetEngine t)) := by
  have heq : resetEngine s = resetEngine t := (congrArg resetEngine h.1).symm
  rw [heq]
  exact sameOutcome_next (sameSeen_refl _)

/-- A generator command of unit `u`. -/
theorem sameOutcome_exec_unit {u : UnitId} {i : Instr} (hi : i ∈ unitCommands u) :
    SameOutcome (exec i s) (exec i t) := by
  have hsq : s.sq = t.sq := (congrArg State.sq h.1).symm
  have hcomb : s.mwcComb = t.mwcComb := (congrArg State.mwcComb h.1).symm
  have hdist : jumpDistance s = jumpDistance t := (congrArg jumpDistance h.1).symm
  have hres (w : Word) : SharedUpdate fun s => { s with res := w } := fun _ _ => ⟨rfl, rfl⟩
  have hempty : SharedUpdate fun s => { s with sq := [] } := fun _ _ => ⟨rfl, rfl⟩
  have hput (l : List Word) : SharedUpdate (putXb l) := fun _ _ => ⟨rfl, rfl⟩
  refine cases_of_mem_unitCommands (motive := fun i => SameOutcome (exec i s) (exec i t)) hi ?seed ?adv ?cur
    ?getst ?setst ?san ?jump ?mix
  case seed =>
    intro x
    rw [exec_seedOf, exec_seedOf, hsq, hcomb]
    cases seedUnit x t.mwcComb t.sq u with
    | inl c => exact sameOutcome_trap h c _
    | inr v => exact sameOutcome_next (sameSeen_seed h u v)
  case adv =>
    rw [exec_advOf, exec_advOf]
    refine sameOutcome_needSeeded h u _ fun hu => ?_
    rw [hu, hcomb]
    exact sameSeen_update (hres _) (sameSeen_setUnit h u _)
  case cur =>
    rw [exec_curOf, exec_curOf]
    refine sameOutcome_needSeeded h u _ fun hu => ?_
    have hout : outUnit s.mwcComb u (s.unit u) = outUnit t.mwcComb u (t.unit u) := by rw [hu, hcomb]
    rw [hout]
    exact sameSeen_update (hres _) h
  case getst =>
    rw [exec_getstOf, exec_getstOf]
    refine sameOutcome_needSeeded h u _ fun hu => ?_
    rw [hu]
    exact sameSeen_update (hput _) h
  case setst =>
    rw [exec_setstOf, exec_setstOf]
    unfold withStateVals
    rw [hsq]
    cases stateVals (tupleLength u) t.sq with
    | none => exact sameOutcome_trap h _ _
    | some v => exact sameOutcome_next (sameSeen_seed h u _)
  case san =>
    rw [exec_sanOf, exec_sanOf]
    refine sameOutcome_needSeeded h u _ fun hu => ?_
    rw [hu]
    exact sameSeen_setUnit h u _
  case jump =>
    rw [exec_jumpOf, exec_jumpOf, hdist]
    cases jumpUnit (jumpDistance t) u with
    | none => exact sameOutcome_trap h _ _
    | some f =>
      refine sameOutcome_needSeeded h u _ fun hu => ?_
      rw [hu]
      exact sameSeen_setUnit h u _
  case mix =>
    rw [exec_mixOf, exec_mixOf, hcomb]
    cases mixUnit t.mwcComb u with
    | none => exact sameOutcome_trap h _ _
    | some f =>
      refine sameOutcome_needSeeded h u _ fun hu => ?_
      rw [hu, hsq]
      exact sameSeen_update hempty (sameSeen_setUnit h u _)

theorem sameOutcome_exec (i : Instr) : SameOutcome (exec i s) (exec i t) := by
  by_cases hrst : i = .rst
  · subst hrst
    exact sameOutcome_reset h
  by_cases hi : ∃ u, i ∈ unitCommands u
  · obtain ⟨u, hu⟩ := hi
    exact sameOutcome_exec_unit h hu
  · exact sameOutcome_exec_shared h hrst (not_exists.mp hi)

/-- The host reads the same word everywhere. -/
theorem portRead_eq_of_sameSeen (a : BitVec 10) : portRead s a = portRead t a := by
  rw [← h.1]
  rfl

theorem sameOutcome_hostRead (a : BitVec 10) : SameOutcome (hostRead a s) (hostRead a t) := by
  have hdata (w : Word) : SharedUpdate fun s => { s with hostData := w } := fun _ _ => ⟨rfl, rfl⟩
  unfold hostRead
  rw [portRead_eq_of_sameSeen h a]
  split
  · exact sameOutcome_next (sameSeen_update (hdata _) h)
  · exact sameOutcome_next (sameSeen_update (hdata 0) (sameSeen_update (sharedUpdate_raiseFault _ _) h))

theorem sameOutcome_writeCmd (w : Word) : SameOutcome (writeCmd w s) (writeCmd w t) := by
  have hdrop : dropped w s = dropped w t := (congrArg (dropped w) h.1).symm
  unfold writeCmd
  rw [hdrop]
  split
  · exact sameOutcome_next h
  split
  · exact sameOutcome_next (sameSeen_update (sharedUpdate_raiseFault _ w) h)
  · exact sameOutcome_exec h _

theorem sameOutcome_hostWrite (a : BitVec 10) (v : Word) : SameOutcome (hostWrite a v s) (hostWrite a v t) := by
  have hmode : SharedUpdate fun s => { s with mwcComb := v.getLsbD 0 } := fun _ _ => ⟨rfl, rfl⟩
  have harg0 : SharedUpdate fun s => { s with arg0 := v } := fun _ _ => ⟨rfl, rfl⟩
  have harg1 : SharedUpdate fun s => { s with arg1 := v } := fun _ _ => ⟨rfl, rfl⟩
  have harg2 : SharedUpdate fun s => { s with arg2 := v } := fun _ _ => ⟨rfl, rfl⟩
  unfold hostWrite
  split
  · exact sameOutcome_writeCmd h v
  · exact sameOutcome_next (sameSeen_update hmode h)
  · exact sameOutcome_next (sameSeen_update harg0 h)
  · exact sameOutcome_next (sameSeen_update harg1 h)
  · exact sameOutcome_next (sameSeen_update harg2 h)
  · exact sameOutcome_next (sameSeen_update (sharedUpdate_raiseFault _ _) h)

theorem sameOutcome_hostEvent (e : HostEvent) : SameOutcome (hostEvent e s) (hostEvent e t) := by
  cases e with
  | reset => exact sameOutcome_reset h
  | read a => exact sameOutcome_hostRead h a
  | write a v => exact sameOutcome_hostWrite h a v

theorem sameOutcome_step : SameOutcome (step s) (step t) := by
  have hinbox : s.inbox = t.inbox := (congrArg State.inbox h.1).symm
  have hrest (rest : List HostEvent) : SharedUpdate fun s => { s with inbox := rest } := fun _ _ => ⟨rfl, rfl⟩
  unfold step takeEvent
  rw [hinbox]
  split
  · exact sameOutcome_next h
  · exact sameOutcome_hostEvent (sameSeen_update (hrest _) h) _

end

/-- Settles O57, from what a command of each kind does to a pair of states. -/
theorem unseededFieldsUnobservable : Obligations.UnseededFieldsUnobservable := fun _ _ h =>
  ⟨portRead_eq_of_sameSeen h, sameOutcome_step h⟩

end Sys2Proof.Machine
end

section
/-! PROOFS. A word that is legal by its fields is decoded, so the record of an illegal word holds an illegal
word (rules R14, R61, R212). -/

namespace Sys2Proof

theorem exists_indexBelow {n : Nat} {v : BitVec 4} (h : v.toNat < n) : ∃ d, indexBelow n v = some d :=
  ⟨⟨v.toNat, h⟩, dif_pos h⟩

theorem exists_unitOf {v : BitVec 4} (h : v.toNat < Config.nUnits) : ∃ u, unitOf v = some u := by
  have hall : ∀ v : BitVec 4, v.toNat < Config.nUnits → (unitOf v).isSome = true := by decide
  exact Option.isSome_iff_exists.mp (hall v h)

theorem eq_zero_of_ok_zero {v : BitVec 4} (h : FieldUse.zero.ok v = true) : v = 0 :=
  BitVec.eq_of_toNat_eq (beq_iff_eq.mp h)

theorem exists_matrix {v : BitVec 4} (h : FieldUse.matrix.ok v = true) : ∃ d, indexBelow Config.nMat v = some d :=
  exists_indexBelow (of_decide_eq_true h)

theorem exists_rom {v : BitVec 4} (h : FieldUse.rom.ok v = true) : ∃ d, indexBelow Config.nRom v = some d :=
  exists_indexBelow (of_decide_eq_true h)

theorem exists_unit {v : BitVec 4} (h : FieldUse.unit.ok v = true) : ∃ u, unitOf v = some u :=
  exists_unitOf (of_decide_eq_true h)

section
variable {k : CmdFields} {op : BitVec 8} {a b c : FieldUse} {x : Bool}

/-- What it means that the fields fit a row (rule R61). -/
theorem fits_iff :
    OpRow.fits ⟨op, a, b, c, x⟩ k = true ↔
      op = k.op ∧ a.ok k.a = true ∧ b.ok k.b = true ∧ c.ok k.c = true ∧ (k.f = 0 ∨ (x = true ∧ k.f = 1)) := by
  have hval (n : BitVec 4) : k.f.toNat = n.toNat ↔ k.f = n := ⟨BitVec.eq_of_toNat_eq, congrArg _⟩
  have h0 := hval 0
  have h1 := hval 1
  simp only [OpRow.fits, Bool.and_eq_true, Bool.or_eq_true, beq_iff_eq, and_assoc]
  rw [show k.f.toNat = 0 ↔ k.f = 0 from h0, show k.f.toNat = 1 ↔ k.f = 1 from h1]

theorem fits_noFlag :
    OpRow.fits ⟨op, a, b, c, false⟩ k = true ↔
      op = k.op ∧ a.ok k.a = true ∧ b.ok k.b = true ∧ c.ok k.c = true ∧ k.f = 0 := by
  simp [fits_iff]

/-- The decoder gives a command. -/
def Decodes (r : Except IllegalWord Instr) : Prop :=
  ∃ i, r = .ok i

theorem decodes_plain (h : OpRow.fits ⟨op, .zero, .zero, .zero, false⟩ k = true) (i : Instr) :
    Decodes (decodePlain k i) := by
  obtain ⟨-, ha, hb, hc, hf⟩ := fits_noFlag.mp h
  exact ⟨i, if_pos ⟨eq_zero_of_ok_zero ha, eq_zero_of_ok_zero hb, eq_zero_of_ok_zero hc, hf⟩⟩

theorem decodes_D (h : OpRow.fits ⟨op, .matrix, .zero, .zero, false⟩ k = true) (mk : MReg → Instr) :
    Decodes (decodeD k mk) := by
  obtain ⟨-, ha, hb, hc, hf⟩ := fits_noFlag.mp h
  obtain ⟨d, hd⟩ := exists_matrix ha
  refine ⟨mk d, ?_⟩
  rw [decodeD, hd]
  exact if_pos ⟨eq_zero_of_ok_zero hb, eq_zero_of_ok_zero hc, hf⟩

theorem decodes_S (h : OpRow.fits ⟨op, .zero, .matrix, .zero, false⟩ k = true) (mk : MReg → Instr) :
    Decodes (decodeS k mk) := by
  obtain ⟨-, ha, hb, hc, hf⟩ := fits_noFlag.mp h
  obtain ⟨d, hd⟩ := exists_matrix hb
  refine ⟨mk d, ?_⟩
  rw [decodeS, hd]
  exact if_pos ⟨eq_zero_of_ok_zero ha, eq_zero_of_ok_zero hc, hf⟩

theorem decodes_DS (h : OpRow.fits ⟨op, .matrix, .matrix, .zero, false⟩ k = true) (mk : MReg → MReg → Instr) :
    Decodes (decodeDS k mk) := by
  obtain ⟨-, ha, hb, hc, hf⟩ := fits_noFlag.mp h
  obtain ⟨d, hd⟩ := exists_matrix ha
  obtain ⟨s, hs⟩ := exists_matrix hb
  refine ⟨mk d s, ?_⟩
  rw [decodeDS, hd, hs]
  exact if_pos ⟨eq_zero_of_ok_zero hc, hf⟩

theorem decodes_DSS (h : OpRow.fits ⟨op, .matrix, .matrix, .matrix, false⟩ k = true)
    (mk : MReg → MReg → MReg → Instr) : Decodes (decodeDSS k mk) := by
  obtain ⟨-, ha, hb, hc, hf⟩ := fits_noFlag.mp h
  obtain ⟨d, hd⟩ := exists_matrix ha
  obtain ⟨s, hs⟩ := exists_matrix hb
  obtain ⟨t, ht⟩ := exists_matrix hc
  refine ⟨mk d s t, ?_⟩
  rw [decodeDSS, hd, hs, ht]
  exact if_pos hf

theorem decodes_DK (h : OpRow.fits ⟨op, .matrix, .rom, .zero, false⟩ k = true) (mk : MReg → RomIndex → Instr) :
    Decodes (decodeDK k mk) := by
  obtain ⟨-, ha, hb, hc, hf⟩ := fits_noFlag.mp h
  obtain ⟨d, hd⟩ := exists_matrix ha
  obtain ⟨r, hr⟩ := exists_rom hb
  refine ⟨mk d r, ?_⟩
  rw [decodeDK, hd, hr]
  exact if_pos ⟨eq_zero_of_ok_zero hc, hf⟩

theorem decodes_U (h : OpRow.fits ⟨op, .unit, .zero, .zero, false⟩ k = true) (mk : UnitId → Instr) :
    Decodes (decodeU k mk) := by
  obtain ⟨-, ha, hb, hc, hf⟩ := fits_noFlag.mp h
  obtain ⟨u, hu⟩ := exists_unit ha
  refine ⟨mk u, ?_⟩
  rw [decodeU, hu]
  exact if_pos ⟨eq_zero_of_ok_zero hb, eq_zero_of_ok_zero hc, hf⟩

theorem decodes_seed (h : OpRow.fits ⟨op, .unit, .zero, .zero, true⟩ k = true) : Decodes (decodeSeed k) := by
  obtain ⟨-, ha, hb, hc, hf⟩ := fits_iff.mp h
  obtain ⟨u, hu⟩ := exists_unit ha
  have hbc : k.b = 0 ∧ k.c = 0 := ⟨eq_zero_of_ok_zero hb, eq_zero_of_ok_zero hc⟩
  unfold decodeSeed
  rw [hu]
  simp only [if_pos hbc]
  obtain hf | ⟨-, hf⟩ := hf
  · exact ⟨_, if_pos hf⟩
  · refine ⟨seedOf true u, ?_⟩
    rw [hf]
    rfl

end

/-- Fields that fit a row of the opcode map are decoded (rules R57, R61). -/
theorem decodes_of_fits {k : CmdFields} {r : OpRow} (hr : r ∈ opRows) (h : r.fits k = true) :
    Decodes (decodeOp k) := by
  have hop : r.op = k.op := (fits_iff.mp h).1
  unfold decodeOp
  rw [← hop]
  simp only [opRows, List.mem_cons, List.not_mem_nil, or_false] at hr
  rcases hr with rfl | rfl | rfl | rfl | rfl | rfl | rfl | rfl | rfl | rfl | rfl | rfl | rfl | rfl | rfl | rfl |
    rfl | rfl | rfl | rfl | rfl | rfl | rfl | rfl | rfl | rfl
  exacts [decodes_plain h _, decodes_plain h _, decodes_plain h _, decodes_plain h _, decodes_plain h _,
    decodes_plain h _, decodes_plain h _, decodes_plain h _, decodes_D h _, decodes_D h _, decodes_D h _,
    decodes_DSS h _, decodes_S h _, decodes_DSS h _, decodes_DS h _, decodes_DK h _, decodes_S h _,
    decodes_D h _, decodes_seed h, decodes_U h _, decodes_U h _, decodes_U h _, decodes_U h _, decodes_U h _,
    decodes_U h _, decodes_U h _]

/-- A word that is legal by its fields is decoded (rule R61). -/
theorem decodes_of_legal {w : Word} (h : (CmdFields.ofWord w).legal = true) : Decodes (decode w) := by
  obtain ⟨hz, hrow⟩ := Bool.and_eq_true_iff.mp h
  obtain ⟨r, hr, hfits⟩ := List.any_eq_true.mp hrow
  have hz : (CmdFields.ofWord w).z = 0 := BitVec.eq_of_toNat_eq (beq_iff_eq.mp hz)
  unfold decode
  simp only [if_pos hz]
  exact decodes_of_fits hr hfits

theorem not_legal_of_decode_error {w : Word} {e : IllegalWord} (h : decode w = .error e) :
    (CmdFields.ofWord w).legal = false := by
  refine Bool.eq_false_iff.mpr fun hlegal => ?_
  obtain ⟨i, hi⟩ := decodes_of_legal hlegal
  rw [h] at hi
  cases hi

end Sys2Proof
end

section
/-! PROOFS. The invariant of the engine: each update of the state keeps it, so every command, every host event
and every step keeps it (rules R14, R22, R25 to R37). -/

namespace Sys2Proof.Machine

/-- The record of a fault of a command (rule R14). -/
theorem recordOk_command {c : Cause} (hbus : c ≠ .bus) (hillegal : c ≠ .illegal) (i : Instr) :
    recordOk (some ⟨c, encode i⟩) := by
  have hlegal := Laws.LegalEncoding.all i
  cases c with
  | bus => exact absurd rfl hbus
  | illegal => exact absurd rfl hillegal
  | _ => exact hlegal

section
variable {s : State} (h : s.Sound)
include h

/-- An update that leaves the fields of the invariant as they are. -/
theorem sound_of_fields_eq {t : State} (hmats : t.mats = s.mats) (hsq : t.sq = s.sq) (hxb : t.xb = s.xb)
    (hxlen : t.xlen = s.xlen) (hfault : t.fault = s.fault)
    (hunits : ∀ u, t.isSeeded u = true → validUnit u (t.unit u)) : t.Sound where
  mats r := by rw [State.mat, hmats]; exact h.mats r
  queue := by rw [hsq]; exact h.queue
  exchange := by rw [xbOk, hxlen, hxb]; exact h.exchange
  record := by rw [hfault]; exact h.record
  units u hu := unitOk_iff.mpr (hunits u hu)

theorem valid_of_sound (u : UnitId) (hu : s.isSeeded u = true) : validUnit u (s.unit u) :=
  unitOk_iff.mp (h.units u hu)

/-- The units of a state after an update of shared registers. -/
theorem units_of_shared {t : State} (hunits : withUnitsOf s t = t) (hseeded : t.seeded = s.seeded) (u : UnitId)
    (hu : t.isSeeded u = true) : unitOk t u := by
  obtain ⟨hunit, hbit⟩ := unit_unchanged_of_eq u hunits hseeded
  rw [unitOk_iff, hunit]
  exact valid_of_sound h u (hbit ▸ hu)

theorem sound_withRes (w : Word) : State.Sound { s with res := w } :=
  ⟨h.mats, h.queue, h.exchange, h.record, units_of_shared h rfl rfl⟩

theorem sound_withHost (w : Word) (l : List HostEvent) : State.Sound { s with hostData := w, inbox := l } :=
  ⟨h.mats, h.queue, h.exchange, h.record, units_of_shared h rfl rfl⟩

theorem sound_withArgs (m : Bool) (a b c : Word) :
    State.Sound { s with mwcComb := m, arg0 := a, arg1 := b, arg2 := c } :=
  ⟨h.mats, h.queue, h.exchange, h.record, units_of_shared h rfl rfl⟩

theorem sound_withQueue {q : List SqEntry} (hq : q.length ≤ Config.sqDepth) : State.Sound { s with sq := q } :=
  ⟨h.mats, hq, h.exchange, h.record, units_of_shared h rfl rfl⟩

theorem sound_putXb {l : List Word} (hl : l.length ≤ Config.xbLen) : (putXb l s).Sound :=
  ⟨h.mats, h.queue, xbOk_putXb s hl, h.record, units_of_shared h rfl rfl⟩

theorem sound_setMat (d : MReg) {m : Mat} (hm : matOk m) : (setMat d m s).Sound where
  mats r := by
    rw [mat_setMat]
    split
    · exact hm
    · exact h.mats r
  queue := h.queue
  exchange := h.exchange
  record := h.record
  units := units_of_shared h rfl rfl

/-- Fault entry, for a record of the right form: a record that stands is kept (rule R214). -/
theorem sound_raiseFault {c : Cause} {w : Word} (hr : recordOk (some ⟨c, w⟩)) : (raiseFault c w s).Sound where
  mats := h.mats
  queue := h.queue
  exchange := h.exchange
  record := by
    cases hf : s.fault with
    | none => rw [raiseFault_of_none c w hf]; exact hr
    | some r => rw [raiseFault_of_some c w hf]; exact h.record
  units := units_of_shared h rfl rfl

theorem sound_busFault (isWrite : Bool) (a : BitVec 10) : (busFault isWrite a s).Sound :=
  sound_raiseFault h ⟨isWrite, a, rfl⟩

theorem sound_clearFault : (clearFault s).Sound :=
  ⟨h.mats, h.queue, h.exchange, trivial, units_of_shared h rfl rfl⟩

/-- A unit takes valid fields. -/
theorem sound_setUnit (u : UnitId) {v : UnitState u} (hv : validUnit u v) : (setUnit u v s).Sound := by
  refine sound_of_fields_eq h (by simp) (by simp) (by simp) (by simp) (by simp) fun w hw => ?_
  by_cases huw : u = w
  · subst huw
    rwa [unit_setUnit_self]
  · obtain ⟨hunit, hseeded⟩ := unit_unchanged_setUnit huw v s
    rw [hunit]
    exact valid_of_sound h w (hseeded ▸ hw)

/-- SEED or SETST gives a unit valid fields and empties the queue (rules R27, R167). -/
theorem sound_seed (u : UnitId) {v : UnitState u} (hv : validUnit u v) :
    (setUnit u v (markSeeded u s)).Sound := by
  have hempty : State.Sound { s with sq := [] } := sound_withQueue h (Nat.zero_le _)
  refine sound_of_fields_eq hempty (by simp) (by simp) (by simp) (by simp) (by simp) fun w hw => ?_
  by_cases huw : u = w
  · subst huw
    rwa [unit_setUnit_self]
  · obtain ⟨hunit, hseeded⟩ := unit_unchanged_seed huw v s
    rw [hunit]
    exact valid_of_sound h w (hseeded ▸ hw)

end

/-- Settles O54: nothing is seeded, written or queued after reset. -/
theorem resetIsSound : Obligations.ResetIsSound where
  mats r := by
    rw [State.mat, State.reset, Table.get_fill]
    exact matOk_unwritten
  queue := Nat.zero_le _
  exchange := ⟨Nat.zero_le _, fun i _ => Table.get_fill _ i⟩
  record := trivial
  units u hu := by
    rw [isSeeded_reset] at hu
    exact absurd hu (by decide)

theorem sound_resetEngine (s : State) : (resetEngine s).Sound :=
  sound_withHost resetIsSound s.hostData s.inbox

theorem tupleLength_le (u : UnitId) : tupleLength u ≤ Config.xbLen := by
  cases u <;> decide

/-- Every command keeps the invariant. -/
theorem sound_effect {s t : State} {i : Instr} (h : s.Sound) (he : Effect s i t) : t.Sound := by
  cases he with
  | fault _ c hbus hillegal => exact sound_raiseFault h (recordOk_command hbus hillegal i)
  | nop => exact h
  | clrf => exact sound_clearFault h
  | rst => exact sound_resetEngine s
  | queue _ q hi hq => exact sound_withQueue h hq
  | mvmul a w => exact sound_withRes h w
  | matrix _ d m hi hm => exact sound_setMat h d (hm h.mats)
  | mget a l hl => exact sound_putXb h (hl.trans (by decide))
  | seed x u v hv => exact sound_seed h u hv
  | adv u v w hv hu => exact sound_withRes (sound_setUnit h u (hv (valid_of_sound h u hu))) w
  | cur u w => exact sound_withRes h w
  | getst u l hl => exact sound_putXb h (hl ▸ tupleLength_le u)
  | setst u v hv => exact sound_seed h u hv
  | san u v hv => exact sound_setUnit h u hv
  | jump u v hv hu => exact sound_setUnit h u (hv (valid_of_sound h u hu))
  | mix u v hv hu =>
    exact sound_withQueue (sound_setUnit h u (hv (valid_of_sound h u hu))) (Nat.zero_le _)

section
variable {s t : State} (h : s.Sound)
include h

theorem sound_writeCmd {w : Word} (hw : writeCmd w s = .next t) : t.Sound := by
  obtain ⟨-, rfl⟩ | ⟨-, ⟨e, he⟩, rfl⟩ | ⟨-, i, -, hi⟩ := writeCmd_next hw
  · exact h
  · exact sound_raiseFault h (not_legal_of_decode_error he)
  · exact sound_effect h (exec_effect hi)

theorem sound_hostRead {a : BitVec 10} (hr : hostRead a s = .next t) : t.Sound := by
  obtain ⟨v, -, rfl⟩ | ⟨-, rfl⟩ := hostRead_next hr
  · exact sound_withHost h v s.inbox
  · exact sound_withHost (sound_busFault h false a) 0 s.inbox

theorem sound_hostWrite {a : BitVec 10} {v : Word} (hw : hostWrite a v s = .next t) : t.Sound := by
  obtain ⟨-, hcmd⟩ | ⟨-, rfl⟩ | ⟨-, rfl⟩ | ⟨-, rfl⟩ | ⟨-, rfl⟩ | rfl := hostWrite_next hw
  · exact sound_writeCmd h hcmd
  · exact sound_withArgs h (v.getLsbD 0) s.arg0 s.arg1 s.arg2
  · exact sound_withArgs h s.mwcComb v s.arg1 s.arg2
  · exact sound_withArgs h s.mwcComb s.arg0 v s.arg2
  · exact sound_withArgs h s.mwcComb s.arg0 s.arg1 v
  · exact sound_busFault h true a

theorem sound_hostEvent {e : HostEvent} (he : hostEvent e s = .next t) : t.Sound := by
  cases e with
  | reset => cases he; exact sound_resetEngine s
  | read a => exact sound_hostRead h he
  | write a v => exact sound_hostWrite h he

end

/-- Settles O53, through the host's event and the effect of its command. -/
theorem stepKeepsSound : Obligations.StepKeepsSound := by
  intro s t h hstep
  obtain ⟨-, rfl⟩ | ⟨e, rest, -, he⟩ := step_next hstep
  · exact h
  · exact sound_hostEvent (sound_withHost h s.hostData rest) he

end Sys2Proof.Machine
end

section
/-! PROOFS. What the host reads of the fault record, of the counts and of the valid bits, and the values of
reset (rules R13, R14, R18 to R20, R40). -/

namespace Sys2Proof.Machine

/-! ### STATUS and FCMD -/

section
variable {s : State}

theorem statusWord_of_none (h : s.fault = none) : statusWord s = 0 := by
  rw [statusWord, h]

theorem fcmdWord_of_none (h : s.fault = none) : fcmdWord s = 0 := by
  rw [fcmdWord, h]

theorem statusWord_of_some {c : Cause} {w : Word} (h : s.fault = some ⟨c, w⟩) :
    statusWord s = (1 : Word) ||| (causeCode c <<< 4) := by
  rw [statusWord, h]

theorem fcmdWord_of_some {c : Cause} {w : Word} (h : s.fault = some ⟨c, w⟩) : fcmdWord s = w := by
  rw [fcmdWord, h]

end

/-- Settles O9, cause by cause for the layout. -/
theorem statusAndFcmd : Obligations.StatusAndFcmd := by
  refine fun s => ⟨fun h => ⟨statusWord_of_none h, fcmdWord_of_none h⟩, fun c w h => ?_⟩
  refine ⟨fcmdWord_of_some h, ?_⟩
  rw [statusWord_of_some h]
  cases c <;> decide

/-! ### SQCNT, XLEN and SEEDED -/

/-- The bits of the number that a list of bits stands for. -/
theorem testBit_bitsToNat (l : List Bool) (k : Nat) : (bitsToNat l).testBit k = l.getD k false := by
  induction l generalizing k with
  | nil => simp [bitsToNat]
  | cons b l ih =>
    have hval : bitsToNat (b :: l) = Nat.bit b (bitsToNat l) := by
      rw [bitsToNat, Nat.bit_val, Nat.add_comm]
    rw [hval]
    cases k with
    | zero => exact Nat.testBit_bit_zero b _
    | succ k => rw [Nat.testBit_bit_succ, ih]; rfl

/-- Bit `k` of SEEDED is entry `k` of the valid bits (rule R20). -/
theorem getLsbD_seededWord (s : State) (k : Nat) :
    (seededWord s).getLsbD k = (decide (k < 32) && s.seeded.toList.getD k false) := by
  rw [seededWord, BitVec.getLsbD_ofNat, testBit_bitsToNat]

theorem getLsbD_seededWord_unit (s : State) (u : UnitId) :
    (seededWord s).getLsbD (unitIndex u).val = s.isSeeded u := by
  have hlt : (unitIndex u).val < 32 := (unitIndex u).isLt.trans (by decide)
  rw [getLsbD_seededWord, decide_eq_true hlt, Bool.true_and, State.isSeeded, Table.get_eq_getD _ _ false]

theorem getLsbD_seededWord_high (s : State) {k : Nat} (hk : 10 ≤ k) : (seededWord s).getLsbD k = false := by
  have hlen : s.seeded.toList.length ≤ k := by rw [s.seeded.length_toList]; exact hk
  rw [getLsbD_seededWord, List.getD_eq_default _ _ hlen, Bool.and_false]

theorem hostRead_of_mapped {s : State} {a : BitVec 10} {v : Word} (h : portRead s a = some v) :
    hostRead a s = .next { s with hostData := v } := by
  rw [hostRead, h]

/-- The count views of a state within its capacities (rules R18, R19). -/
theorem toNat_sqcntWord {s : State} (h : s.Sound) : (sqcntWord s).toNat = s.sq.length :=
  Nat.mod_eq_of_lt (h.queue.trans_lt (by decide))

theorem toNat_xlenWord {s : State} (h : s.Sound) : (xlenWord s).toNat = s.xlen :=
  Nat.mod_eq_of_lt (h.exchange.1.trans_lt (by decide))

/-- Settles O10, view by view. -/
theorem countAndSeededViews : Obligations.CountAndSeededViews := by
  refine ⟨fun s h => ?_, fun s v => ⟨rfl, rfl, rfl⟩, rfl, rfl, rfl⟩
  have hcnt := toNat_sqcntWord h
  have hlen := toNat_xlenWord h
  exact ⟨sqcntWord s, xlenWord s, seededWord s, hostRead_of_mapped rfl, hcnt, hcnt ▸ h.queue,
    hostRead_of_mapped rfl, hlen, hlen ▸ h.exchange.1, hostRead_of_mapped rfl, getLsbD_seededWord_unit s,
    fun _ => getLsbD_seededWord_high s⟩

/-! ### Reset -/

theorem mat_reset (r : MReg) : State.reset.mat r = Mat.unwritten :=
  Table.get_fill _ _

/-- Settles O12: the fields of the reset state one by one. -/
theorem resetValues : Obligations.ResetValues := by
  refine ⟨rfl, rfl, rfl, rfl, rfl, rfl, rfl, fun r => ?_, rfl, rfl, fun i => Table.get_fill _ i, isSeeded_reset⟩
  rw [mat_reset]
  exact ⟨rfl, fun j => Table.get_fill _ j⟩

end Sys2Proof.Machine
end

section
/-! PROOFS. The host port address by address, the drop at CMD and the step: what a read and a write of each
address do, and which event a step performs (rules R42 to R44, R49, R53, R63, R215, R220). -/

namespace Sys2Proof.Machine

/-! ### Writes -/

/-- A command word is dropped exactly while a fault is recorded and if it is neither CLRF nor RST (rule
R215). -/
theorem dropped_iff {w : Word} {s : State} : dropped w s = true ↔ s.fault ≠ none ∧ w ≠ 1 ∧ w ≠ 2 := by
  simp [dropped, Option.isSome_iff_ne_none, and_assoc]

theorem writeCmd_of_dropped {w : Word} {s : State} (h : dropped w s = true) : writeCmd w s = .next s := by
  rw [writeCmd, if_pos h]

theorem writeCmd_of_decode {w : Word} {s : State} {i : Instr} (hd : ¬ dropped w s = true)
    (hi : decode w = .ok i) : writeCmd w s = exec i s := by
  rw [writeCmd, if_neg hd, hi]

theorem hostWrite_cmd (w : Word) (s : State) : hostWrite 0 w s = writeCmd w s := rfl

/-- A write to CMD of a word that is not dropped runs the command it decodes to (rule R63). -/
theorem hostWrite_cmd_of_decode {w : Word} {s : State} {i : Instr} (hf : s.fault = none ∨ w = 1 ∨ w = 2)
    (hi : decode w = .ok i) : hostWrite 0 w s = exec i s := by
  have hd : ¬ dropped w s = true := fun hd => by
    obtain ⟨hfault, hclrf, hrst⟩ := dropped_iff.mp hd
    obtain h | h | h := hf
    · exact hfault h
    · exact hclrf h
    · exact hrst h
  rw [hostWrite_cmd, writeCmd_of_decode hd hi]

/-- What FCMD takes at a bad write and at a bad read (rule R14). -/
theorem busRecord_write (a : BitVec 10) : busRecord true a = 0x80000000 ||| a.setWidth 32 := rfl

theorem busRecord_read (a : BitVec 10) : busRecord false a = a.setWidth 32 := by
  simp [busRecord, bitWord]

/-- Five addresses take a write; at every other it is a bus fault (rules R43, R53). -/
theorem hostWrite_of_not_writable {a : BitVec 10} (v : Word) (s : State) (h0 : a ≠ 0x000) (h3 : a ≠ 0x003)
    (h4 : a ≠ 0x004) (h5 : a ≠ 0x005) (h6 : a ≠ 0x006) : hostWrite a v s = .next (busFault true a s) := by
  unfold hostWrite
  split
  · next ha => exact absurd (BitVec.eq_of_toNat_eq ha) h0
  · next ha => exact absurd (BitVec.eq_of_toNat_eq ha) h3
  · next ha => exact absurd (BitVec.eq_of_toNat_eq ha) h4
  · next ha => exact absurd (BitVec.eq_of_toNat_eq ha) h5
  · next ha => exact absurd (BitVec.eq_of_toNat_eq ha) h6
  · rfl

/-- Settles O8, address by address. -/
theorem hostWriteMap : Obligations.HostWriteMap := by
  refine fun s v => ⟨rfl, rfl, rfl, rfl, fun i hi hf => hostWrite_cmd_of_decode (.inl hf) hi, ?_⟩
  intro a h0 h3 h4 h5 h6
  rw [hostWrite_of_not_writable v s h0 h3 h4 h5 h6, busFault, busRecord_write]

/-! ### Reads -/

/-- Above the registers the port holds the exchange buffer and nothing else (rule R44). -/
theorem portRead_high (s : State) {a : BitVec 10} (h : 0x00D ≤ a.toNat) :
    portRead s a = if h : 0x100 ≤ a.toNat ∧ a.toNat - 0x100 < Config.xbLen
      then some (s.xb.get ⟨a.toNat - 0x100, h.2⟩) else none := by
  unfold portRead
  split
  case h_12 => rfl
  all_goals omega

theorem portRead_xb (s : State) (i : Fin 257) :
    portRead s (BitVec.ofNat 10 (0x100 + i.val)) = some (s.xb.get i) := by
  have hi : i.val < Config.xbLen := i.isLt
  have ha : (BitVec.ofNat 10 (0x100 + i.val)).toNat = 0x100 + i.val :=
    Nat.mod_eq_of_lt (by omega)
  rw [portRead_high s (by omega)]
  simp only [ha, Nat.add_sub_cancel_left, Nat.le_add_right, hi, and_self, dite_true]

/-- The four gaps of the register map (rule R44). -/
theorem portRead_of_unmapped (s : State) {a : BitVec 10}
    (h : a = 0x007 ∨ a = 0x009 ∨ (0x00D ≤ a.toNat ∧ a.toNat ≤ 0x0FF) ∨ 0x201 ≤ a.toNat) :
    portRead s a = none := by
  have hxb := Config.xbLen_eq
  obtain rfl | rfl | ⟨hlow, hhigh⟩ | hlow := h
  · rfl
  · rfl
  · rw [portRead_high s hlow, dif_neg (by omega)]
  · rw [portRead_high s (by omega), dif_neg (by omega)]

theorem hostRead_of_unmapped {s : State} {a : BitVec 10} (h : portRead s a = none) :
    hostRead a s = .next { busFault false a s with hostData := 0 } := by
  rw [hostRead, h]

/-- Settles O7: the registers one by one, the exchange buffer, and the gaps. -/
theorem hostReadMap : Obligations.HostReadMap := by
  refine fun s => ⟨fun a v h => hostRead_of_mapped ?_, fun a h => ?_⟩
  · iterate 11
      obtain ⟨rfl, rfl⟩ | h := h
      · rfl
    obtain ⟨i, rfl, rfl⟩ := h
    exact portRead_xb s i
  · rw [hostRead_of_unmapped (portRead_of_unmapped s h), busFault, busRecord_read]

/-! ### The step -/

theorem step_of_inbox_nil {s : State} (h : s.inbox = []) : step s = .next s := by
  rw [step, takeEvent, h]

theorem step_of_inbox_cons {s : State} {e : HostEvent} {rest : List HostEvent} (h : s.inbox = e :: rest) :
    step s = hostEvent e { s with inbox := rest } := by
  rw [step, takeEvent, h]

/-- A fetched word is the write of that word to CMD, performed on the state it was placed in. -/
theorem step_withFetchWord (s : State) {w : Nat} (hw : w < 2 ^ 32) :
    step (s.withFetchWord 32 w) = hostWrite 0 (BitVec.ofNat 32 w) s := by
  rw [State.withFetchWord, Nat.mod_eq_of_lt hw]
  rfl

/-- Settles O6: the first event of the inbox by its kind, and the drop at CMD by `dropped_iff`. -/
theorem stepRunsDecoded : Obligations.StepRunsDecoded := by
  intro s rest
  refine ⟨step_of_inbox_nil, step_of_inbox_cons, fun a => step_of_inbox_cons, fun a v => step_of_inbox_cons,
    fun w i h hi => ?_, fun w i hw hi hf => ?_⟩
  · have hstep : step s = hostWrite 0 w { s with inbox := rest } := step_of_inbox_cons h
    rw [hstep]
    exact ⟨fun hf => hostWrite_cmd_of_decode hf hi,
      fun hf hclrf hrst => writeCmd_of_dropped (dropped_iff.mpr ⟨hf, hclrf, hrst⟩)⟩
  · rw [step_withFetchWord s hw]
    exact hostWrite_cmd_of_decode (.inl hf) hi

end Sys2Proof.Machine
end

section
/-! PROOFS. Command words as their fields: a word is its six fields, the encoder writes each operand into its
own field, and each field reader of the decoder reads back what was written (rules R55, R57 to R60). -/

namespace Sys2Proof

open Machine (unitIndex)

/-! ### A word and its fields -/

/-- The word with the given fields (rule R55). -/
def CmdFields.toWord (k : CmdFields) : Word :=
  k.z ++ k.f ++ k.c ++ k.b ++ k.a ++ k.op

theorem CmdFields.ofWord_toWord (k : CmdFields) : CmdFields.ofWord k.toWord = k := by
  obtain ⟨op, a, b, c, f, z⟩ := k
  let w := z ++ f ++ c ++ b ++ a ++ op
  change CmdFields.mk (w.extractLsb' 0 8) (w.extractLsb' 8 4) (w.extractLsb' 12 4) (w.extractLsb' 16 4)
    (w.extractLsb' 20 4) (w.extractLsb' 24 8) = _
  simp only [w, BitVec.extractLsb'_append_eq_right, BitVec.extractLsb'_append_eq_of_le, Nat.reduceLeDiff,
    Nat.reduceSub, BitVec.extractLsb'_eq_self]

/-- The six fields cover the word, so a word is known by them. -/
theorem CmdFields.toWord_ofWord (w : Word) : (CmdFields.ofWord w).toWord = w := by
  simp only [CmdFields.ofWord, CmdFields.toWord]
  iterate 5 rw [BitVec.extractLsb'_append_extractLsb'_eq_extractLsb' (by rfl)]
  exact BitVec.extractLsb'_eq_self

theorem CmdFields.ofWord_injective : Function.Injective CmdFields.ofWord :=
  Function.LeftInverse.injective CmdFields.toWord_ofWord

section
variable (v w : Word)

theorem CmdFields.ofWord_or :
    CmdFields.ofWord (v ||| w) =
      ⟨(ofWord v).op ||| (ofWord w).op, (ofWord v).a ||| (ofWord w).a, (ofWord v).b ||| (ofWord w).b,
        (ofWord v).c ||| (ofWord w).c, (ofWord v).f ||| (ofWord w).f, (ofWord v).z ||| (ofWord w).z⟩ := by
  simp only [CmdFields.ofWord, BitVec.extractLsb'_or]

theorem CmdFields.ofWord_and :
    CmdFields.ofWord (v &&& w) =
      ⟨(ofWord v).op &&& (ofWord w).op, (ofWord v).a &&& (ofWord w).a, (ofWord v).b &&& (ofWord w).b,
        (ofWord v).c &&& (ofWord w).c, (ofWord v).f &&& (ofWord w).f, (ofWord v).z &&& (ofWord w).z⟩ := by
  simp only [CmdFields.ofWord, BitVec.extractLsb'_and]

end

/-! ### The values of a field -/

/-- The field that holds a register number or ROM index. -/
def indexField {n : Nat} (r : Fin n) : BitVec 4 :=
  BitVec.ofNat 4 r.val

theorem indexBelow_eq_some_iff {n : Nat} (hn : n ≤ 16) {v : BitVec 4} {d : Fin n} :
    indexBelow n v = some d ↔ v = indexField d := by
  have hd : (indexField d).toNat = d.val := Nat.mod_eq_of_lt (d.isLt.trans_le hn)
  constructor
  · intro h
    obtain ⟨hlt, hval⟩ := Option.dite_none_right_eq_some.mp h
    exact BitVec.eq_of_toNat_eq (hd ▸ congrArg Fin.val (Option.some.inj hval))
  · rintro rfl
    simp [indexBelow, hd]

/-- Registers and ROM indexes are both numbers 0..7 (rules R57, R60). -/
theorem indexBelow_matrix {v : BitVec 4} {d : MReg} : indexBelow Config.nMat v = some d ↔ v = indexField d :=
  indexBelow_eq_some_iff (by decide)

theorem unitOf_eq_some_iff {v : BitVec 4} {u : UnitId} : unitOf v = some u ↔ v = indexField (unitIndex u) := by
  cases u <;> revert v <;> decide

/-! ### The fields of an encoded word -/

theorem ofWord_op (op : BitVec 8) : CmdFields.ofWord (op.setWidth 32) = ⟨op, 0, 0, 0, 0, 0⟩ := by
  revert op; decide

theorem ofWord_fieldAt_a (d : MReg) : CmdFields.ofWord (fieldAt d 8) = ⟨0, indexField d, 0, 0, 0, 0⟩ := by
  revert d; decide

theorem ofWord_fieldAt_b (d : MReg) : CmdFields.ofWord (fieldAt d 12) = ⟨0, 0, indexField d, 0, 0, 0⟩ := by
  revert d; decide

theorem ofWord_fieldAt_c (d : MReg) : CmdFields.ofWord (fieldAt d 16) = ⟨0, 0, 0, indexField d, 0, 0⟩ := by
  revert d; decide

/-! The words of the shapes of command: the operation code with `Md`, `Ms1`, `Ms2` or a ROM index each in its
own field, and zero elsewhere (rule R55). -/

section
variable (op : BitVec 8)

theorem ofWord_D (d : MReg) :
    CmdFields.ofWord (op.setWidth 32 ||| fieldAt d 8) = ⟨op, indexField d, 0, 0, 0, 0⟩ := by
  rw [CmdFields.ofWord_or, ofWord_op, ofWord_fieldAt_a]
  simp

theorem ofWord_S (s : MReg) :
    CmdFields.ofWord (op.setWidth 32 ||| fieldAt s 12) = ⟨op, 0, indexField s, 0, 0, 0⟩ := by
  rw [CmdFields.ofWord_or, ofWord_op, ofWord_fieldAt_b]
  simp

theorem ofWord_DS (d s : MReg) :
    CmdFields.ofWord (op.setWidth 32 ||| fieldAt d 8 ||| fieldAt s 12) =
      ⟨op, indexField d, indexField s, 0, 0, 0⟩ := by
  rw [CmdFields.ofWord_or, ofWord_D, ofWord_fieldAt_b]
  simp

theorem ofWord_DSS (d s t : MReg) :
    CmdFields.ofWord (op.setWidth 32 ||| fieldAt d 8 ||| fieldAt s 12 ||| fieldAt t 16) =
      ⟨op, indexField d, indexField s, indexField t, 0, 0⟩ := by
  rw [CmdFields.ofWord_or, ofWord_DS, ofWord_fieldAt_c]
  simp

end

/-! ### The decoder, shape by shape -/

section
variable {k : CmdFields} {i : Instr}

/-- The last check of every shape: the fields it leaves unused. -/
theorem checked_eq_ok_iff {p : Prop} [Decidable p] {e : IllegalWord} {j : Instr} :
    (if p then Except.ok j else Except.error e) = Except.ok i ↔ p ∧ j = i := by
  by_cases h : p <;> simp [h]

theorem decodePlain_eq_ok_iff {j : Instr} :
    decodePlain k j = .ok i ↔ k.a = 0 ∧ k.b = 0 ∧ k.c = 0 ∧ k.f = 0 ∧ j = i := by
  rw [decodePlain, checked_eq_ok_iff]
  simp only [and_assoc]

theorem decodeD_eq_ok_iff {mk : MReg → Instr} :
    decodeD k mk = .ok i ↔ ∃ d, k.a = indexField d ∧ k.b = 0 ∧ k.c = 0 ∧ k.f = 0 ∧ mk d = i := by
  unfold decodeD
  simp only [← indexBelow_matrix]
  cases indexBelow Config.nMat k.a <;> simp [checked_eq_ok_iff, and_assoc]

theorem decodeS_eq_ok_iff {mk : MReg → Instr} :
    decodeS k mk = .ok i ↔ ∃ s, k.b = indexField s ∧ k.a = 0 ∧ k.c = 0 ∧ k.f = 0 ∧ mk s = i := by
  unfold decodeS
  simp only [← indexBelow_matrix]
  cases indexBelow Config.nMat k.b <;> simp [checked_eq_ok_iff, and_assoc]

theorem decodeDS_eq_ok_iff {mk : MReg → MReg → Instr} :
    decodeDS k mk = .ok i ↔
      ∃ d s, k.a = indexField d ∧ k.b = indexField s ∧ k.c = 0 ∧ k.f = 0 ∧ mk d s = i := by
  unfold decodeDS
  simp only [← indexBelow_matrix]
  cases indexBelow Config.nMat k.a <;> cases indexBelow Config.nMat k.b <;> simp [checked_eq_ok_iff, and_assoc]

theorem decodeDSS_eq_ok_iff {mk : MReg → MReg → MReg → Instr} :
    decodeDSS k mk = .ok i ↔
      ∃ d s t, k.a = indexField d ∧ k.b = indexField s ∧ k.c = indexField t ∧ k.f = 0 ∧ mk d s t = i := by
  unfold decodeDSS
  simp only [← indexBelow_matrix]
  cases indexBelow Config.nMat k.a <;> cases indexBelow Config.nMat k.b <;>
    cases indexBelow Config.nMat k.c <;> simp [checked_eq_ok_iff]

theorem decodeDK_eq_ok_iff {mk : MReg → RomIndex → Instr} :
    decodeDK k mk = .ok i ↔
      ∃ d r, k.a = indexField d ∧ k.b = indexField r ∧ k.c = 0 ∧ k.f = 0 ∧ mk d r = i := by
  unfold decodeDK
  simp only [← indexBelow_matrix]
  cases indexBelow Config.nMat k.a <;> cases indexBelow Config.nRom k.b <;> simp [checked_eq_ok_iff, and_assoc]

theorem decodeU_eq_ok_iff {mk : UnitId → Instr} :
    decodeU k mk = .ok i ↔
      ∃ u, k.a = indexField (unitIndex u) ∧ k.b = 0 ∧ k.c = 0 ∧ k.f = 0 ∧ mk u = i := by
  unfold decodeU
  simp only [← unitOf_eq_some_iff]
  cases unitOf k.a <;> simp [checked_eq_ok_iff, and_assoc]

/-- The flags field of SEED: X alone (rules R55, R59). -/
def flagField (x : Bool) : BitVec 4 :=
  if x then 1 else 0

theorem decodeSeed_eq_ok_iff :
    decodeSeed k = .ok i ↔
      ∃ u x, k.a = indexField (unitIndex u) ∧ k.b = 0 ∧ k.c = 0 ∧ k.f = flagField x ∧ seedOf x u = i := by
  unfold decodeSeed flagField
  simp only [← unitOf_eq_some_iff]
  cases unitOf k.a with
  | none => simp
  | some u =>
    by_cases h0 : k.f = 0#4
    · simp [h0, checked_eq_ok_iff, and_assoc]
    · by_cases h1 : k.f = 1#4 <;> simp [h0, h1, checked_eq_ok_iff, and_assoc]

end

end Sys2Proof
end

section
/-! PROOFS. Decoding and encoding are inverse to each other (rules R54 to R61), operation by operation. -/

namespace Sys2Proof

open Machine (unitIndex)

theorem decode_of_ofWord {w : Word} {k : CmdFields} (h : CmdFields.ofWord w = k) (hz : k.z = 0) :
    decode w = decodeOp k := by
  subst h
  exact if_pos hz

/-- A word that decodes has the top byte zero and is decoded by its operation code (rule R61). -/
theorem decode_eq_ok_iff {w : Word} {i : Instr} :
    decode w = .ok i ↔ (CmdFields.ofWord w).z = 0 ∧ decodeOp (CmdFields.ofWord w) = .ok i := by
  by_cases hz : (CmdFields.ofWord w).z = 0#8 <;> simp [decode, hz]

/-! ### The fields of the generator commands -/

theorem ofWord_seed (u : UnitId) (x : Bool) :
    CmdFields.ofWord (encode (seedOf x u)) = ⟨0x20, indexField (unitIndex u), 0, 0, flagField x, 0⟩ := by
  revert x; cases u <;> decide

theorem ofWord_adv (u : UnitId) :
    CmdFields.ofWord (encode (advOf u)) = ⟨0x21, indexField (unitIndex u), 0, 0, 0, 0⟩ := by
  cases u <;> rfl

theorem ofWord_cur (u : UnitId) :
    CmdFields.ofWord (encode (curOf u)) = ⟨0x22, indexField (unitIndex u), 0, 0, 0, 0⟩ := by
  cases u <;> rfl

theorem ofWord_getst (u : UnitId) :
    CmdFields.ofWord (encode (getstOf u)) = ⟨0x23, indexField (unitIndex u), 0, 0, 0, 0⟩ := by
  cases u <;> rfl

theorem ofWord_setst (u : UnitId) :
    CmdFields.ofWord (encode (setstOf u)) = ⟨0x24, indexField (unitIndex u), 0, 0, 0, 0⟩ := by
  cases u <;> rfl

theorem ofWord_san (u : UnitId) :
    CmdFields.ofWord (encode (sanOf u)) = ⟨0x25, indexField (unitIndex u), 0, 0, 0, 0⟩ := by
  cases u <;> rfl

theorem ofWord_jump (u : UnitId) :
    CmdFields.ofWord (encode (jumpOf u)) = ⟨0x26, indexField (unitIndex u), 0, 0, 0, 0⟩ := by
  cases u <;> rfl

theorem ofWord_mix (u : UnitId) :
    CmdFields.ofWord (encode (mixOf u)) = ⟨0x27, indexField (unitIndex u), 0, 0, 0, 0⟩ := by
  cases u <;> rfl

/-! ### Decoding what was encoded -/

section
variable {op : BitVec 8}

theorem decodePlain_fields (i : Instr) : decodePlain ⟨op, 0, 0, 0, 0, 0⟩ i = .ok i :=
  decodePlain_eq_ok_iff.mpr ⟨rfl, rfl, rfl, rfl, rfl⟩

theorem decodeD_fields (mk : MReg → Instr) (d : MReg) :
    decodeD ⟨op, indexField d, 0, 0, 0, 0⟩ mk = .ok (mk d) :=
  decodeD_eq_ok_iff.mpr ⟨d, rfl, rfl, rfl, rfl, rfl⟩

theorem decodeS_fields (mk : MReg → Instr) (s : MReg) :
    decodeS ⟨op, 0, indexField s, 0, 0, 0⟩ mk = .ok (mk s) :=
  decodeS_eq_ok_iff.mpr ⟨s, rfl, rfl, rfl, rfl, rfl⟩

theorem decodeDS_fields (mk : MReg → MReg → Instr) (d s : MReg) :
    decodeDS ⟨op, indexField d, indexField s, 0, 0, 0⟩ mk = .ok (mk d s) :=
  decodeDS_eq_ok_iff.mpr ⟨d, s, rfl, rfl, rfl, rfl, rfl⟩

theorem decodeDSS_fields (mk : MReg → MReg → MReg → Instr) (d s t : MReg) :
    decodeDSS ⟨op, indexField d, indexField s, indexField t, 0, 0⟩ mk = .ok (mk d s t) :=
  decodeDSS_eq_ok_iff.mpr ⟨d, s, t, rfl, rfl, rfl, rfl, rfl⟩

theorem decodeDK_fields (mk : MReg → RomIndex → Instr) (d : MReg) (r : RomIndex) :
    decodeDK ⟨op, indexField d, indexField r, 0, 0, 0⟩ mk = .ok (mk d r) :=
  decodeDK_eq_ok_iff.mpr ⟨d, r, rfl, rfl, rfl, rfl, rfl⟩

theorem decodeU_fields (mk : UnitId → Instr) (u : UnitId) :
    decodeU ⟨op, indexField (unitIndex u), 0, 0, 0, 0⟩ mk = .ok (mk u) :=
  decodeU_eq_ok_iff.mpr ⟨u, rfl, rfl, rfl, rfl, rfl⟩

theorem decodeSeed_fields (u : UnitId) (x : Bool) :
    decodeSeed ⟨op, indexField (unitIndex u), 0, 0, flagField x, 0⟩ = .ok (seedOf x u) :=
  decodeSeed_eq_ok_iff.mpr ⟨u, x, rfl, rfl, rfl, rfl, rfl⟩

end

/-- Settles O1: each command's word has the fields of its shape, and the decoder of that shape reads them
back. -/
theorem decodeOfEncode : Obligations.DecodeOfEncode := by
  intro i
  cases i using Machine.Instr.casesByUnit with
  | nop => exact decodePlain_fields (op := 0x00) _
  | clrf => exact decodePlain_fields (op := 0x01) _
  | rst => exact decodePlain_fields (op := 0x02) _
  | sqclr => exact decodePlain_fields (op := 0x08) _
  | sqpush => exact decodePlain_fields (op := 0x09) _
  | sqpusha => exact decodePlain_fields (op := 0x0A) _
  | sqpushw => exact decodePlain_fields (op := 0x0B) _
  | sqpushx => exact decodePlain_fields (op := 0x0C) _
  | munity d => exact (decode_of_ofWord (ofWord_D 0x10 d) rfl).trans (decodeD_fields .munity d)
  | mshift d => exact (decode_of_ofWord (ofWord_D 0x11 d) rfl).trans (decodeD_fields .mshift d)
  | mmask d => exact (decode_of_ofWord (ofWord_D 0x12 d) rfl).trans (decodeD_fields .mmask d)
  | madd d s t =>
    exact (decode_of_ofWord (ofWord_DSS 0x13 d s t) rfl).trans (decodeDSS_fields .madd d s t)
  | mvmul s => exact (decode_of_ofWord (ofWord_S 0x14 s) rfl).trans (decodeS_fields .mvmul s)
  | mmul d s t =>
    exact (decode_of_ofWord (ofWord_DSS 0x15 d s t) rfl).trans (decodeDSS_fields .mmul d s t)
  | mpow d s => exact (decode_of_ofWord (ofWord_DS 0x16 d s) rfl).trans (decodeDS_fields .mpow d s)
  | mrom d r => exact (decode_of_ofWord (ofWord_DS 0x18 d r) rfl).trans (decodeDK_fields .mrom d r)
  | mget s => exact (decode_of_ofWord (ofWord_S 0x19 s) rfl).trans (decodeS_fields .mget s)
  | msetcol d => exact (decode_of_ofWord (ofWord_D 0x1A d) rfl).trans (decodeD_fields .msetcol d)
  | seed x u => exact (decode_of_ofWord (ofWord_seed u x) rfl).trans (decodeSeed_fields u x)
  | adv u => exact (decode_of_ofWord (ofWord_adv u) rfl).trans (decodeU_fields advOf u)
  | cur u => exact (decode_of_ofWord (ofWord_cur u) rfl).trans (decodeU_fields curOf u)
  | getst u => exact (decode_of_ofWord (ofWord_getst u) rfl).trans (decodeU_fields getstOf u)
  | setst u => exact (decode_of_ofWord (ofWord_setst u) rfl).trans (decodeU_fields setstOf u)
  | san u => exact (decode_of_ofWord (ofWord_san u) rfl).trans (decodeU_fields sanOf u)
  | jump u => exact (decode_of_ofWord (ofWord_jump u) rfl).trans (decodeU_fields jumpOf u)
  | mix u => exact (decode_of_ofWord (ofWord_mix u) rfl).trans (decodeU_fields mixOf u)

/-! ### Encoding what was decoded -/

section
variable {k : CmdFields} {i : Instr} {op : BitVec 8}

/-- Fields with the top byte zero and the operation code `op`, known by the other four. -/
theorem fields_eq {a b c f : BitVec 4} (hop : k.op.toNat = op.toNat) (hz : k.z = 0) (ha : k.a = a)
    (hb : k.b = b) (hc : k.c = c) (hf : k.f = f) : ⟨op, a, b, c, f, 0⟩ = k := by
  have hop := BitVec.eq_of_toNat_eq hop
  subst hop ha hb hc hf
  rw [← hz]

theorem ofWord_encode_of_decodePlain {j : Instr} (h : decodePlain k j = .ok i)
    (henc : CmdFields.ofWord (encode j) = ⟨op, 0, 0, 0, 0, 0⟩)
    (hop : k.op.toNat = op.toNat) (hz : k.z = 0) : CmdFields.ofWord (encode i) = k := by
  obtain ⟨ha, hb, hc, hf, rfl⟩ := decodePlain_eq_ok_iff.mp h
  exact henc.trans (fields_eq hop hz ha hb hc hf)

theorem ofWord_encode_of_decodeD {mk : MReg → Instr} (h : decodeD k mk = .ok i)
    (henc : ∀ d, CmdFields.ofWord (encode (mk d)) = ⟨op, indexField d, 0, 0, 0, 0⟩)
    (hop : k.op.toNat = op.toNat) (hz : k.z = 0) : CmdFields.ofWord (encode i) = k := by
  obtain ⟨d, ha, hb, hc, hf, rfl⟩ := decodeD_eq_ok_iff.mp h
  exact (henc d).trans (fields_eq hop hz ha hb hc hf)

theorem ofWord_encode_of_decodeS {mk : MReg → Instr} (h : decodeS k mk = .ok i)
    (henc : ∀ s, CmdFields.ofWord (encode (mk s)) = ⟨op, 0, indexField s, 0, 0, 0⟩)
    (hop : k.op.toNat = op.toNat) (hz : k.z = 0) : CmdFields.ofWord (encode i) = k := by
  obtain ⟨s, hb, ha, hc, hf, rfl⟩ := decodeS_eq_ok_iff.mp h
  exact (henc s).trans (fields_eq hop hz ha hb hc hf)

theorem ofWord_encode_of_decodeDS {mk : MReg → MReg → Instr} (h : decodeDS k mk = .ok i)
    (henc : ∀ d s, CmdFields.ofWord (encode (mk d s)) = ⟨op, indexField d, indexField s, 0, 0, 0⟩)
    (hop : k.op.toNat = op.toNat) (hz : k.z = 0) : CmdFields.ofWord (encode i) = k := by
  obtain ⟨d, s, ha, hb, hc, hf, rfl⟩ := decodeDS_eq_ok_iff.mp h
  exact (henc d s).trans (fields_eq hop hz ha hb hc hf)

theorem ofWord_encode_of_decodeDSS {mk : MReg → MReg → MReg → Instr} (h : decodeDSS k mk = .ok i)
    (henc : ∀ d s t,
      CmdFields.ofWord (encode (mk d s t)) = ⟨op, indexField d, indexField s, indexField t, 0, 0⟩)
    (hop : k.op.toNat = op.toNat) (hz : k.z = 0) : CmdFields.ofWord (encode i) = k := by
  obtain ⟨d, s, t, ha, hb, hc, hf, rfl⟩ := decodeDSS_eq_ok_iff.mp h
  exact (henc d s t).trans (fields_eq hop hz ha hb hc hf)

theorem ofWord_encode_of_decodeDK {mk : MReg → RomIndex → Instr} (h : decodeDK k mk = .ok i)
    (henc : ∀ d r, CmdFields.ofWord (encode (mk d r)) = ⟨op, indexField d, indexField r, 0, 0, 0⟩)
    (hop : k.op.toNat = op.toNat) (hz : k.z = 0) : CmdFields.ofWord (encode i) = k := by
  obtain ⟨d, r, ha, hb, hc, hf, rfl⟩ := decodeDK_eq_ok_iff.mp h
  exact (henc d r).trans (fields_eq hop hz ha hb hc hf)

theorem ofWord_encode_of_decodeU {mk : UnitId → Instr} (h : decodeU k mk = .ok i)
    (henc : ∀ u, CmdFields.ofWord (encode (mk u)) = ⟨op, indexField (unitIndex u), 0, 0, 0, 0⟩)
    (hop : k.op.toNat = op.toNat) (hz : k.z = 0) : CmdFields.ofWord (encode i) = k := by
  obtain ⟨u, ha, hb, hc, hf, rfl⟩ := decodeU_eq_ok_iff.mp h
  exact (henc u).trans (fields_eq hop hz ha hb hc hf)

end

theorem ofWord_encode_of_decodeSeed {k : CmdFields} {i : Instr} (hop : k.op.toNat = 0x20) (hz : k.z = 0)
    (h : decodeSeed k = .ok i) : CmdFields.ofWord (encode i) = k := by
  obtain ⟨u, x, ha, hb, hc, hf, rfl⟩ := decodeSeed_eq_ok_iff.mp h
  exact (ofWord_seed u x).trans (fields_eq (op := 0x20) hop hz ha hb hc hf)

/-- The fields that an operation decodes are the fields of the word of the command it gives (rule R57). -/
theorem ofWord_encode_of_decodeOp {k : CmdFields} {i : Instr} (hz : k.z = 0) (h : decodeOp k = .ok i) :
    CmdFields.ofWord (encode i) = k := by
  unfold decodeOp at h
  split at h
  case h_1 hop => exact ofWord_encode_of_decodePlain (op := 0x00) h rfl hop hz
  case h_2 hop => exact ofWord_encode_of_decodePlain (op := 0x01) h rfl hop hz
  case h_3 hop => exact ofWord_encode_of_decodePlain (op := 0x02) h rfl hop hz
  case h_4 hop => exact ofWord_encode_of_decodePlain (op := 0x08) h rfl hop hz
  case h_5 hop => exact ofWord_encode_of_decodePlain (op := 0x09) h rfl hop hz
  case h_6 hop => exact ofWord_encode_of_decodePlain (op := 0x0A) h rfl hop hz
  case h_7 hop => exact ofWord_encode_of_decodePlain (op := 0x0B) h rfl hop hz
  case h_8 hop => exact ofWord_encode_of_decodePlain (op := 0x0C) h rfl hop hz
  case h_9 hop => exact ofWord_encode_of_decodeD h (ofWord_D 0x10) hop hz
  case h_10 hop => exact ofWord_encode_of_decodeD h (ofWord_D 0x11) hop hz
  case h_11 hop => exact ofWord_encode_of_decodeD h (ofWord_D 0x12) hop hz
  case h_12 hop => exact ofWord_encode_of_decodeDSS h (ofWord_DSS 0x13) hop hz
  case h_13 hop => exact ofWord_encode_of_decodeS h (ofWord_S 0x14) hop hz
  case h_14 hop => exact ofWord_encode_of_decodeDSS h (ofWord_DSS 0x15) hop hz
  case h_15 hop => exact ofWord_encode_of_decodeDS h (ofWord_DS 0x16) hop hz
  case h_16 hop => exact ofWord_encode_of_decodeDK h (ofWord_DS 0x18) hop hz
  case h_17 hop => exact ofWord_encode_of_decodeS h (ofWord_S 0x19) hop hz
  case h_18 hop => exact ofWord_encode_of_decodeD h (ofWord_D 0x1A) hop hz
  case h_19 hop => exact ofWord_encode_of_decodeSeed hop hz h
  case h_20 hop => exact ofWord_encode_of_decodeU h ofWord_adv hop hz
  case h_21 hop => exact ofWord_encode_of_decodeU h ofWord_cur hop hz
  case h_22 hop => exact ofWord_encode_of_decodeU h ofWord_getst hop hz
  case h_23 hop => exact ofWord_encode_of_decodeU h ofWord_setst hop hz
  case h_24 hop => exact ofWord_encode_of_decodeU h ofWord_san hop hz
  case h_25 hop => exact ofWord_encode_of_decodeU h ofWord_jump hop hz
  case h_26 hop => exact ofWord_encode_of_decodeU h ofWord_mix hop hz
  case h_27 => cases h

/-- Settles O2: the two words have the same fields. -/
theorem encodeOfDecode : Obligations.EncodeOfDecode := by
  intro w i h
  obtain ⟨hz, hop⟩ := decode_eq_ok_iff.mp h
  exact CmdFields.ofWord_injective (ofWord_encode_of_decodeOp hz hop)

/-- A word that decodes is legal by its fields (rule R61). -/
theorem legal_of_decode {w : Word} {i : Instr} (h : decode w = .ok i) : (CmdFields.ofWord w).legal = true :=
  encodeOfDecode w i h ▸ Laws.LegalEncoding.all i

/-- Settles O3: `decodes_of_legal` in one direction, `legal_of_decode` in the other. -/
theorem illegalWordsFault : Obligations.IllegalWordsFault := by
  refine fun w => ⟨decodes_of_legal, fun hw => ?_⟩
  have hnot (i : Instr) : decode w ≠ .ok i := fun hi => by
    rw [legal_of_decode hi] at hw
    cases hw
  refine ⟨hnot, fun s hs => ?_⟩
  rw [Machine.hostWrite_cmd, Machine.writeCmd]
  cases hd : decode w with
  | ok i => exact absurd hd (hnot i)
  | error e =>
    have hkept : ¬ Machine.dropped w s = true := fun h => (Machine.dropped_iff.mp h).1 hs
    rw [if_neg hkept, Machine.raiseFault_of_none _ _ hs]

/-- Settles O5: each sample is the word of its command, so O1 decodes it. -/
theorem decodeSamples : Obligations.DecodeSamples :=
  ⟨decodeOfEncode (.mmul 2 0 1), decodeOfEncode (.mvmul 3), decodeOfEncode (.mrom 1 0),
    decodeOfEncode (.mrom 3 5), decodeOfEncode (.seedKiss true), decodeOfEncode .advSwb, decodeOfEncode .nop,
    decodeOfEncode .sqpushw, decodeOfEncode (.mpow 1 0)⟩

end Sys2Proof
end

section
/-! PROOFS. The opcode table against the opcode map: each row of the map stands for the rows of the table that
differ in the unit alone, a word belongs to one of these exactly when its fields fit the row of the map, and
no word belongs to two (rules R57, R59, R61). -/

namespace Sys2Proof

/-! ### The legal values of a field by a mask -/

/-- The bits of a field that a row's mask takes. -/
def FieldUse.mask : FieldUse → BitVec 4
  | .zero => 0xF
  | .matrix => 0x8
  | .unit => 0xF
  | .rom => 0x8

/-- What the masked field holds in a legal word, one value a table row: the units, and 0 otherwise. -/
def FieldUse.values : FieldUse → List (BitVec 4)
  | .unit => (List.range Config.nUnits).map (BitVec.ofNat 4)
  | _ => [0]

theorem FieldUse.ok_iff {t : FieldUse} {v : BitVec 4} : t.ok v = true ↔ v &&& t.mask ∈ t.values := by
  cases t <;> revert v <;> decide

theorem FieldUse.nodup_values (t : FieldUse) : t.values.Nodup := by
  cases t <;> decide

/-- The bits of the flags field that a row's mask takes: all, but for X where the row has it. -/
def flagMask (x : Bool) : BitVec 4 :=
  if x then 0xE else 0xF

theorem flags_ok_iff {x : Bool} {f : BitVec 4} : f = 0 ∨ (x = true ∧ f = 1) ↔ f &&& flagMask x = 0 := by
  revert x f; decide

/-! ### The table rows of a row of the map -/

/-- The table row of one choice of the masked values of A, B and C. -/
def OpRow.tableRow (r : OpRow) (p : BitVec 4 × BitVec 4 × BitVec 4) : TableRow where
  mask := CmdFields.toWord ⟨0xFF, r.a.mask, r.b.mask, r.c.mask, flagMask r.x, 0xFF⟩
  bits := CmdFields.toWord ⟨r.op, p.1, p.2.1, p.2.2, 0, 0⟩

/-- The choices of the masked values of A, B and C. -/
def OpRow.operands (r : OpRow) : List (BitVec 4 × BitVec 4 × BitVec 4) :=
  r.a.values ×ˢ r.b.values ×ˢ r.c.values

theorem OpRow.nodup_operands (r : OpRow) : r.operands.Nodup :=
  r.a.nodup_values.product (r.b.nodup_values.product r.c.nodup_values)

/-- The opcode table is the opcode map with its operand choices written out (rule R57). -/
theorem tableRows_eq : tableRows = opRows.flatMap fun r => r.operands.map r.tableRow := by
  decide

theorem mem_tableRows {t : TableRow} : t ∈ tableRows ↔ ∃ r ∈ opRows, ∃ p ∈ r.operands, r.tableRow p = t := by
  simp only [tableRows_eq, List.mem_flatMap, List.mem_map]

/-- A word belongs to a table row exactly when its masked fields are the row's. -/
theorem OpRow.matches_tableRow_iff {r : OpRow} {p : BitVec 4 × BitVec 4 × BitVec 4} {w : Word} :
    w &&& (r.tableRow p).mask = (r.tableRow p).bits ↔
      (CmdFields.ofWord w).op = r.op ∧ ((CmdFields.ofWord w).a &&& r.a.mask,
        (CmdFields.ofWord w).b &&& r.b.mask, (CmdFields.ofWord w).c &&& r.c.mask) = p ∧
      (CmdFields.ofWord w).f &&& flagMask r.x = 0 ∧ (CmdFields.ofWord w).z = 0 := by
  have hall (v : BitVec 8) : v &&& 0xFF = v := BitVec.and_allOnes
  obtain ⟨a, b, c⟩ := p
  rw [← CmdFields.ofWord_injective.eq_iff, CmdFields.ofWord_and, OpRow.tableRow, CmdFields.ofWord_toWord,
    CmdFields.ofWord_toWord]
  simp only [CmdFields.mk.injEq, Prod.mk.injEq, hall, and_assoc]

/-- Fields fit a row of the map exactly when their masked values are one of its operand choices. -/
theorem OpRow.fits_iff_operands {r : OpRow} {k : CmdFields} :
    r.fits k = true ↔
      k.op = r.op ∧ (k.a &&& r.a.mask, k.b &&& r.b.mask, k.c &&& r.c.mask) ∈ r.operands ∧
      k.f &&& flagMask r.x = 0 := by
  obtain ⟨op, a, b, c, x⟩ := r
  simp only [fits_iff, FieldUse.ok_iff, flags_ok_iff, OpRow.operands, List.mem_product, and_assoc,
    @eq_comm _ k.op]

/-! ### Legal words and table rows -/

theorem legal_iff {k : CmdFields} : k.legal = true ↔ k.z = 0 ∧ ∃ r ∈ opRows, r.fits k = true := by
  have hz : k.z.toNat = 0 ↔ k.z = 0 := ⟨fun h => BitVec.eq_of_toNat_eq h, congrArg _⟩
  rw [CmdFields.legal, Bool.and_eq_true, beq_iff_eq, hz, List.any_eq_true]

/-- A word is legal exactly when it belongs to a row of the opcode table (rule R57). -/
theorem legal_iff_matches (w : Word) :
    (CmdFields.ofWord w).legal = true ↔ ∃ t ∈ tableRows, w &&& t.mask = t.bits := by
  simp only [legal_iff, mem_tableRows]
  constructor
  · rintro ⟨hz, r, hr, hfits⟩
    obtain ⟨hop, hp, hf⟩ := OpRow.fits_iff_operands.mp hfits
    exact ⟨_, ⟨r, hr, _, hp, rfl⟩, OpRow.matches_tableRow_iff.mpr ⟨hop, rfl, hf, hz⟩⟩
  · rintro ⟨_, ⟨r, hr, p, hp, rfl⟩, hw⟩
    obtain ⟨hop, rfl, hf, hz⟩ := OpRow.matches_tableRow_iff.mp hw
    exact ⟨hz, r, hr, OpRow.fits_iff_operands.mpr ⟨hop, hp, hf⟩⟩

/-- No word belongs to both rows. -/
def TableRow.Disjoint (t t' : TableRow) : Prop :=
  ∀ w : Word, w &&& t.mask = t.bits → w &&& t'.mask ≠ t'.bits

theorem OpRow.disjoint_of_op_ne {r r' : OpRow} (h : r.op ≠ r'.op) (p p' : BitVec 4 × BitVec 4 × BitVec 4) :
    (r.tableRow p).Disjoint (r'.tableRow p') := by
  intro w hw hw'
  have hop := (OpRow.matches_tableRow_iff.mp hw).1
  have hop' := (OpRow.matches_tableRow_iff.mp hw').1
  exact h (hop.symm.trans hop')

theorem OpRow.disjoint_of_operands_ne {r : OpRow} {p p' : BitVec 4 × BitVec 4 × BitVec 4} (h : p ≠ p') :
    (r.tableRow p).Disjoint (r.tableRow p') := by
  intro w hw hw'
  obtain ⟨-, hp, -⟩ := OpRow.matches_tableRow_iff.mp hw
  obtain ⟨-, hp', -⟩ := OpRow.matches_tableRow_iff.mp hw'
  exact h (hp.symm.trans hp')

/-- The rows of the map have different operation codes (rule R57). -/
theorem opRows_pairwise_op_ne : opRows.Pairwise fun r r' => r.op ≠ r'.op := by
  decide

theorem tableRows_pairwise_disjoint : tableRows.Pairwise TableRow.Disjoint := by
  rw [tableRows_eq, List.pairwise_flatMap]
  constructor
  · intro r _
    exact List.pairwise_map.mpr (r.nodup_operands.imp OpRow.disjoint_of_operands_ne)
  · refine opRows_pairwise_op_ne.imp fun hop t ht t' ht' => ?_
    obtain ⟨p, -, rfl⟩ := List.mem_map.mp ht
    obtain ⟨p', -, rfl⟩ := List.mem_map.mp ht'
    exact OpRow.disjoint_of_op_ne hop p p'

/-- Settles O4, through the opcode map: rows of one operation differ in the unit, all others in OP. -/
theorem legalMatchesOneRow : Obligations.LegalMatchesOneRow :=
  ⟨legal_iff_matches, tableRows_pairwise_disjoint⟩

end Sys2Proof
end

section
/-! PROOFS. The vectors below the width of a matrix, on which its product with a vector says all of it: the
columns are read back from the words of one bit, the constructed matrices are the linear maps they are named
for, and the powers of a matrix are fixed by how often they apply it (rules R66 to R73). -/

namespace Sys2Proof.Machine

/-! ### The selected columns one by one -/

theorem xorColumns_append (cs ds : List Word) (i : Nat) (v : Word) :
    xorColumns (cs ++ ds) i v = xorColumns cs i v ^^^ xorColumns ds (i + cs.length) v := by
  induction cs generalizing i with
  | nil => simp [xorColumns]
  | cons c cs ih =>
    rw [List.cons_append, xorColumns, ih, xorColumns, List.length_cons, BitVec.xor_assoc, Nat.add_right_comm i 1,
      Nat.add_assoc i]

/-- One more column is taken where its bit is set; past the last column there is nothing to take. -/
theorem xorColumns_take_succ (cs : List Word) (n : Nat) (v : Word) :
    xorColumns (cs.take (n + 1)) 0 v =
      xorColumns (cs.take n) 0 v ^^^ (if v.getLsbD n then cs.getD n 0 else 0) := by
  rw [List.take_add_one, xorColumns_append, List.getD_eq_getElem?_getD]
  by_cases hn : n < cs.length
  · rw [List.getElem?_eq_getElem hn, List.length_take_of_le hn.le]
    simp [xorColumns]
  · rw [List.getElem?_eq_none (Nat.le_of_not_lt hn)]
    simp [xorColumns]

/-- The product with a vector is the sum of the selected columns, for widths without a bound too (rule
R70). -/
theorem columnSum_eq_matVec (p : Mat) (v : Word) : columnSum p v = matVec p v := by
  unfold columnSum matVec
  induction p.n with
  | zero => rfl
  | succ n ih =>
    rw [List.range_succ, List.foldl_append, ih, xorColumns_take_succ]
    simp only [List.foldl_cons, List.foldl_nil]
    split
    · rfl
    · exact (BitVec.xor_zero).symm

theorem getLsbD_one_shiftLeft {i : Nat} (hi : i < 32) (j : Nat) : ((1 : Word) <<< i).getLsbD j = decide (j = i) := by
  have hone : (1 : Word).getLsbD (j - i) = decide (j - i = 0) := BitVec.getLsbD_one
  rw [BitVec.getLsbD_shiftLeft, hone]
  grind

/-- The fully set vector of `n` bits. -/
def ones (n : Nat) : Word :=
  BitVec.ofNat 32 (2 ^ n - 1)

theorem getLsbD_ones (n j : Nat) : (ones n).getLsbD j = (decide (j < 32) && decide (j < n)) := by
  rw [ones, BitVec.getLsbD_ofNat, Nat.testBit_two_pow_sub_one]

/-- The product with the word of one bit is the column it selects. -/
theorem matVec_one_shiftLeft {p : Mat} (hn : p.n ≤ 32) {i : Nat} (hi : i < p.n) :
    matVec p ((1 : Word) <<< i) = p.column i := by
  have hsel (n : Nat) : xorColumns (p.col.toList.take n) 0 ((1 : Word) <<< i) = if i < n then p.column i else 0 := by
    induction n with
    | zero => rfl
    | succ n ih =>
      rw [xorColumns_take_succ, ih, getLsbD_one_shiftLeft (hi.trans_le hn)]
      rcases Nat.lt_trichotomy i n with h | rfl | h
      · simp [h, h.ne', Nat.lt_succ_of_lt h]
      · simp [Mat.column]
      · simp [h.ne, Nat.not_lt.mpr h.le, Nat.not_lt.mpr (Nat.succ_le_of_lt h)]
  exact (hsel p.n).trans (if_pos hi)

/-! ### Matrices made from a linear map -/

theorem get_matOf (n : Nat) (f : Nat → Word) (i : Fin Config.nMax) :
    (matOf n f).col.get i = if i.val < n then f i.val else 0 :=
  Table.get_tab _ i

theorem matOf_congr {n : Nat} {f g : Nat → Word} (h : ∀ i < n, f i = g i) : matOf n f = matOf n g := by
  have hcols : (fun i => if i < n then f i else 0) = fun i => if i < n then g i else 0 :=
    funext fun i => ite_congr rfl (h i) fun _ => rfl
  rw [matOf, matOf, hcols]

theorem getLsbD_of_toNat_lt {v : Word} {n : Nat} (hv : v.toNat < 2 ^ n) {b : Nat} (hb : n ≤ b) :
    v.getLsbD b = false :=
  Nat.testBit_lt_two_pow (hv.trans_le (Nat.pow_le_pow_right (by decide) hb))

theorem xorColumns_bits {n : Nat} (hn : n ≤ 32) {v : Word} (hv : v.toNat < 2 ^ n) :
    xorColumns ((List.range n).map fun i => (1 : Word) <<< i) 0 v = v := by
  refine BitVec.eq_of_getLsbD_eq fun b _ => ?_
  rw [List.range_eq_range', getLsbD_xorColumns_bits n 0 v b (by omega)]
  by_cases hb : b < n
  · simp [hb]
  · simp [hb, getLsbD_of_toNat_lt hv (Nat.le_of_not_lt hb)]

/-- The matrix whose columns are a linear map's values at the words of one bit is that map on the vectors
below its width. -/
theorem XorLinear.matVec_matOf_of_lt {f : Word → Word} (hf : XorLinear f) {n : Nat} (hn : n ≤ 32) {v : Word}
    (hv : v.toNat < 2 ^ n) : matVec (matOf n fun i => f ((1 : Word) <<< i)) v = f v := by
  calc matVec (matOf n fun i => f ((1 : Word) <<< i)) v
      = xorColumns (((List.range n).map fun i => (1 : Word) <<< i).map f) 0 v := by
        rw [List.map_map]
        exact congrArg (xorColumns · 0 v) (columns_matOf n _ hn)
    _ = f v := by rw [← hf.map_xorColumns, xorColumns_bits hn hv]

theorem matVec_unity_of_lt {n : Nat} (hn : n ≤ 32) {v : Word} (hv : v.toNat < 2 ^ n) : matVec (unity n) v = v :=
  XorLinear.id.matVec_matOf_of_lt hn hv

/-- A shift by `k >= 0` is a left shift within the width (rule R67). -/
theorem matVec_shiftMat_left {n : Nat} (hn : n ≤ 32) (k : Nat) {v : Word} (hv : v.toNat < 2 ^ n) :
    matVec (shiftMat n k) v = (v <<< k) &&& ones n := by
  have hcols : shiftMat n k = matOf n fun i => ((1 : Word) <<< i <<< k) &&& ones n := by
    refine matOf_congr fun i hi => BitVec.eq_of_getLsbD_eq fun b hb => ?_
    rw [← BitVec.shiftLeft_add, BitVec.getLsbD_and, getLsbD_ones]
    by_cases hik : i + k < n
    · rw [if_pos (by omega), ← Nat.cast_add, Int.toNat_natCast, getLsbD_one_shiftLeft (by omega)]
      grind
    · rw [if_neg (by omega), BitVec.getLsbD_shiftLeft]
      have hout : b < n → b < i + k := by omega
      grind
  rw [hcols]
  exact ((XorLinear.id.shiftLeft k).and _).matVec_matOf_of_lt hn hv

/-- A shift by `-k <= 0` is a right shift (rule R67). -/
theorem matVec_shiftMat_right {n : Nat} (hn : n ≤ 32) (k : Nat) {v : Word} (hv : v.toNat < 2 ^ n) :
    matVec (shiftMat n (-(k : Int))) v = v >>> k := by
  have hcols : shiftMat n (-(k : Int)) = matOf n fun i => (1 : Word) <<< i >>> k := by
    refine matOf_congr fun i hi => BitVec.eq_of_getLsbD_eq fun b hb => ?_
    rw [BitVec.getLsbD_ushiftRight, getLsbD_one_shiftLeft (hi.trans_le hn)]
    by_cases hki : k ≤ i
    · have hsub : ((i : Int) + -(k : Int)).toNat = i - k := by omega
      rw [if_pos (by omega), hsub, getLsbD_one_shiftLeft (by omega)]
      grind
    · rw [if_neg (by omega)]
      have hne : k + b ≠ i := by omega
      simp [hne]
  rw [hcols]
  exact (XorLinear.id.ushiftRight k).matVec_matOf_of_lt hn hv

/-- The mask of the positions from `m` up clears the low `m` bits (rule R68). -/
theorem matVec_maskMat_from {m : Nat} (hm : m ≤ 32) (z : Word) :
    matVec (maskMat 32 m 32) z = z &&& ~~~(ones m) := by
  have hcols : maskMat 32 m 32 = matOf 32 fun i => (1 : Word) <<< i &&& ~~~(ones m) := by
    refine matOf_congr fun i hi => BitVec.eq_of_getLsbD_eq fun b hb => ?_
    have hrange : inRange i m 32 = decide (m ≤ i) := by simp [inRange, hm, hi]
    rw [hrange, BitVec.getLsbD_and, BitVec.getLsbD_not, getLsbD_ones, getLsbD_one_shiftLeft hi]
    by_cases hmi : m ≤ i
    · rw [if_pos (by simpa using hmi), getLsbD_one_shiftLeft hi]
      grind
    · have hout : b = i → b < m := by omega
      rw [if_neg (by simpa using hmi)]
      simpa [hb] using hout
  rw [hcols]
  exact (XorLinear.id.and _).matVec_matOf z

/-- Settles O26: the constructed matrices are made from linear maps. -/
theorem matricesActOnVectors : Obligations.MatricesActOnVectors :=
  ⟨fun _ _ v hw hn => matVec_matMul hw hn v,
    fun _ k _ _ hn hv => ⟨matVec_shiftMat_left hn k hv, matVec_shiftMat_right hn k hv, matVec_unity_of_lt hn hv⟩,
    fun _ z hm => matVec_maskMat_from hm z⟩

/-! ### Powers -/

/-- Valid matrices that agree on the vectors below their width are equal. -/
theorem matOk.eq_of_matVec_eq {p q : Mat} (hp : matOk p) (hq : matOk q) (hw : p.n = q.n)
    (h : ∀ v : Word, v.toNat < 2 ^ p.n → matVec p v = matVec q v) : p = q := by
  have hcol : p.col = q.col := Table.ext_get fun i => by
    by_cases hi : i.val < p.n
    · rw [p.get_col, q.get_col, ← matVec_one_shiftLeft hp.1 hi, ← matVec_one_shiftLeft hq.1 (hw ▸ hi)]
      exact h _ (toNat_one_shiftLeft_lt hi)
    · have hi : p.n ≤ i.val := Nat.le_of_not_lt hi
      rw [(hp.2 i).2 hi, (hq.2 i).2 (hw ▸ hi)]
  cases p
  cases q
  cases hw
  cases hcol
  rfl

/-- The matrix `r` is the product of `e` factors `p`: a valid matrix of the width of `p` that applies `p` so
often. -/
structure IsPower (p : Mat) (e : Nat) (r : Mat) : Prop where
  ok : matOk r
  width : r.n = p.n
  acts : ∀ v : Word, v.toNat < 2 ^ p.n → matVec r v = (matVec p)^[e] v

section
variable {p r r' : Mat} {a b e : Nat}

/-- There is one power to each exponent. -/
theorem IsPower.unique (h : IsPower p e r) (h' : IsPower p e r') : r = r' :=
  h.ok.eq_of_matVec_eq h'.ok (h.width.trans h'.width.symm) fun v hv => by
    rw [h.width] at hv
    rw [h.acts v hv, h'.acts v hv]

/-- The exponents of factors add up. -/
theorem IsPower.mul (h : IsPower p a r) (h' : IsPower p b r') : IsPower p (a + b) (matMul r r') where
  ok := matOk_matMul h.ok r'
  width := h.width
  acts v hv := by
    have hlt : (matVec r' v).toNat < 2 ^ p.n := h'.width ▸ toNat_matVec_lt h'.ok v
    rw [matVec_matMul (h.width.trans h'.width.symm) h.ok.1, h.acts _ hlt, h'.acts v hv,
      ← Function.iterate_add_apply]

theorem isPower_unity (hp : matOk p) : IsPower p 0 (unity p.n) :=
  ⟨matOk_unity hp.1, rfl, fun _ hv => matVec_unity_of_lt hp.1 hv⟩

theorem isPower_self (hp : matOk p) : IsPower p 1 p :=
  ⟨hp, rfl, fun _ _ => rfl⟩

/-- What the squaring loop of rule R72 computes from any two powers, the result so far and the square. -/
theorem IsPower.matPowLoop {k : Nat} (he : e < 2 ^ k) (h : IsPower p a r) (h' : IsPower p b r') :
    IsPower p (a + b * e) (matPowLoop k e r r') := by
  induction k generalizing e a b r r' with
  | zero =>
    obtain rfl : e = 0 := by omega
    exact h
  | succ k ih =>
    rw [Machine.matPowLoop]
    have hhalf : e / 2 < 2 ^ k := by rw [pow_succ] at he; omega
    have hexp : b * (e % 2) + (b + b) * (e / 2) = b * e := by
      calc b * (e % 2) + (b + b) * (e / 2) = b * (e % 2 + 2 * (e / 2)) := by ring
        _ = b * e := by rw [Nat.mod_add_div]
    split
    · next hzero => rw [hzero]; exact h
    split
    · next hodd =>
      rw [← hexp, hodd, Nat.mul_one, ← Nat.add_assoc]
      exact ih hhalf (h.mul h') (h'.mul h')
    · next heven =>
      rw [← hexp, Nat.mod_two_ne_one.mp heven, Nat.mul_zero, Nat.zero_add]
      exact ih hhalf h (h'.mul h')

theorem isPower_matPow (hp : matOk p) (he : e < 2 ^ 64) : IsPower p e (matPow p e) := by
  have h := (isPower_unity hp).matPowLoop he (isPower_self hp)
  rwa [Nat.zero_add, Nat.one_mul] at h

/-- The product of `e` factors, one after another. -/
theorem isPower_iterate (hp : matOk p) (e : Nat) : IsPower p e ((fun q => matMul q p)^[e] (unity p.n)) := by
  induction e with
  | zero => exact isPower_unity hp
  | succ e ih =>
    rw [Function.iterate_succ_apply']
    exact ih.mul (isPower_self hp)

end

/-- The squaring loop gives the product of so many factors (rule R72). -/
theorem matPow_eq_iterate {p : Mat} (hp : matOk p) {e : Nat} (he : e < 2 ^ 64) :
    matPow p e = (fun q => matMul q p)^[e] (unity p.n) :=
  (isPower_matPow hp he).unique (isPower_iterate hp e)

/-! ### The laws -/

theorem toNat_ones {n : Nat} (hn : n ≤ 32) : (ones n).toNat = 2 ^ n - 1 := by
  have : 2 ^ n ≤ 2 ^ 32 := Nat.pow_le_pow_right (by decide) hn
  rw [ones, BitVec.toNat_ofNat, Nat.mod_eq_of_lt (by omega)]

theorem toNat_ones_lt {n : Nat} (hn : n ≤ 32) : (ones n).toNat < 2 ^ n := by
  rw [toNat_ones hn]
  exact Nat.sub_one_lt_of_lt (Nat.two_pow_pos n)

theorem matVec_matMul_shiftMat {n : Nat} (hn : n ≤ 32) (k l : Int) (v : Word) :
    matVec (matMul (shiftMat n k) (shiftMat n l)) v = matVec (shiftMat n k) (matVec (shiftMat n l) v) :=
  matVec_matMul (p := shiftMat n k) (q := shiftMat n l) rfl hn v

/-- Right, then left: of the fully set vector the low `k` bits are lost (rule R73, item 4). -/
theorem toNat_matVec_shift_left_right {n k : Nat} (hn : n ≤ 32) (hk : k ≤ n) :
    (matVec (matMul (shiftMat n k) (shiftMat n (-(k : Int)))) (ones n)).toNat = 2 ^ n - 2 ^ k := by
  have hright := matVec_shiftMat_right hn k (toNat_ones_lt hn)
  have hlt : (ones n >>> k).toNat < 2 ^ n := hright ▸ toNat_matVec_lt (matOk_shiftMat hn _) (ones n)
  have hbits : (ones n >>> k <<< k) &&& ones n = ones (n - k) <<< k := by
    refine BitVec.eq_of_getLsbD_eq fun b hb => ?_
    simp only [BitVec.getLsbD_and, BitVec.getLsbD_shiftLeft, BitVec.getLsbD_ushiftRight, getLsbD_ones]
    grind
  have hval : (2 ^ (n - k) - 1) * 2 ^ k = 2 ^ n - 2 ^ k := by
    rw [Nat.sub_mul, ← pow_add, Nat.sub_add_cancel hk, Nat.one_mul]
  have hle : 2 ^ n ≤ 2 ^ 32 := Nat.pow_le_pow_right (by decide) hn
  have hpos : 0 < 2 ^ k := Nat.two_pow_pos k
  rw [matVec_matMul_shiftMat hn, hright, matVec_shiftMat_left hn k hlt, hbits, BitVec.toNat_shiftLeft,
    toNat_ones (by omega), Nat.shiftLeft_eq, hval]
  exact Nat.mod_eq_of_lt (by have := Nat.two_pow_pos n; omega)

/-- Left, then right: of the fully set vector the high `k` bits are lost (rule R73, item 4). -/
theorem toNat_matVec_shift_right_left {n k : Nat} (hn : n ≤ 32) :
    (matVec (matMul (shiftMat n (-(k : Int))) (shiftMat n k)) (ones n)).toNat = 2 ^ (n - k) - 1 := by
  have hleft := matVec_shiftMat_left hn k (toNat_ones_lt hn)
  have hlt := toNat_matVec_lt (matOk_shiftMat hn (k : Int)) (ones n)
  have hbits : ((ones n <<< k) &&& ones n) >>> k = ones (n - k) := by
    refine BitVec.eq_of_getLsbD_eq fun b hb => ?_
    simp only [BitVec.getLsbD_and, BitVec.getLsbD_shiftLeft, BitVec.getLsbD_ushiftRight, getLsbD_ones]
    grind
  rw [matVec_matMul_shiftMat hn, matVec_shiftMat_right hn k hlt, hleft, hbits, toNat_ones (by omega)]

/-- Settles O27: laws 1 to 3 compare powers of one matrix, law 4 is the shifts' action. -/
theorem matrixLaws : Obligations.MatrixLaws := by
  refine ⟨fun m hm _ => ⟨?_, ?_, ?_, fun a b hab => ?_⟩, fun n k _ hn hk => ⟨?_, ?_⟩⟩
  · exact ((isPower_unity hm).mul (isPower_self hm)).unique (isPower_self hm)
  · exact ((isPower_self hm).mul (isPower_unity hm)).unique (isPower_self hm)
  · exact (isPower_matPow hm (Nat.two_pow_pos 64)).unique (isPower_unity hm)
  · have ha := isPower_matPow hm ((Nat.le_add_right a b).trans_lt hab)
    have hb := isPower_matPow hm ((Nat.le_add_left b a).trans_lt hab)
    exact (isPower_matPow hm hab).unique (ha.mul hb)
  · exact toNat_matVec_shift_left_right hn hk
  · exact toNat_matVec_shift_right_left hn

end Sys2Proof.Machine
end

section
/-! PROOFS. The matrix commands, each check and each effect said once (rules R74 to R84). -/

namespace Sys2Proof.Machine

variable {s : State}

/-! ### The constructors -/

theorem legalWidth_iff {n : Nat} : legalWidth n = true ↔ 1 ≤ n ∧ n ≤ 32 := by
  simp [legalWidth, Config.nMax_eq]

theorem buildMat_of_legal {md : MReg} {i : Instr} {m : Mat} (h : 1 ≤ s.arg0.toNat ∧ s.arg0.toNat ≤ 32) :
    buildMat md i m s = .next (setMat md m s) :=
  if_pos (legalWidth_iff.mpr h)

theorem buildMat_of_illegal {md : MReg} {i : Instr} {m : Mat} (h : s.arg0.toNat < 1 ∨ 32 < s.arg0.toNat) :
    buildMat md i m s = .next (raiseFault .range (encode i) s) :=
  if_neg fun hlegal => by
    have : 1 ≤ s.arg0.toNat ∧ s.arg0.toNat ≤ 32 := legalWidth_iff.mp hlegal
    omega

/-- A column chosen below the width, as one condition. -/
theorem get_matOf_ite {n : Nat} {c : Nat → Prop} [DecidablePred c] (f : Nat → Word) (i : Fin Config.nMax) :
    (matOf n fun j => if c j then f j else 0).col.get i = if i.val < n ∧ c i.val then f i.val else 0 := by
  rw [get_matOf, ite_and]

theorem inRange_eq_true_iff {i start stop : Nat} :
    inRange i start stop = true ↔ if start ≤ stop then start ≤ i ∧ i < stop else start ≤ i ∨ i < stop := by
  unfold inRange
  split <;> simp

/-- Settles O21: the columns of each constructed matrix, and the width check. -/
theorem matrixConstructors : Obligations.MatrixConstructors := by
  refine fun s d => ⟨fun hpos hle => ⟨⟨unity s.arg0.toNat, rfl, get_matOf _ _, ?_⟩,
    ⟨shiftMat s.arg0.toNat s.arg1.toInt, rfl, get_matOf_ite _, ?_⟩,
    ⟨maskMat s.arg0.toNat s.arg1.toNat s.arg2.toNat, rfl, fun i => ?_, ?_⟩⟩, fun h => ?_⟩
  · exact buildMat_of_legal ⟨hpos, hle⟩
  · exact buildMat_of_legal ⟨hpos, hle⟩
  · simp only [← inRange_eq_true_iff]
    exact get_matOf_ite _ i
  · exact buildMat_of_legal ⟨hpos, hle⟩
  · exact ⟨buildMat_of_illegal h, buildMat_of_illegal h, buildMat_of_illegal h⟩

/-! ### Two sources -/

section
variable {d a b : MReg} {i : Instr} {f : Mat → Mat → Mat}

theorem combineMats_of_unwritten (h : (s.mat a).n = 0 ∨ (s.mat b).n = 0) :
    combineMats d a b i f s = .next (raiseFault .empty (encode i) s) :=
  if_pos h

theorem combineMats_of_width_ne (ha : (s.mat a).n ≠ 0) (hb : (s.mat b).n ≠ 0) (hne : (s.mat a).n ≠ (s.mat b).n) :
    combineMats d a b i f s = .next (raiseFault .width (encode i) s) := by
  rw [combineMats, if_neg (not_or.mpr ⟨ha, hb⟩), if_pos hne]
  rfl

theorem combineMats_of_width_eq (ha : (s.mat a).n ≠ 0) (heq : (s.mat a).n = (s.mat b).n) :
    combineMats d a b i f s = .next (setMat d (f (s.mat a) (s.mat b)) s) := by
  rw [combineMats, if_neg (not_or.mpr ⟨ha, heq ▸ ha⟩), if_neg (not_not.mpr heq)]

end

theorem get_matAdd (p q : Mat) (i : Fin Config.nMax) : (matAdd p q).col.get i = p.col.get i ^^^ q.col.get i := by
  rw [p.get_col, q.get_col]
  exact Table.get_tab _ i

theorem get_matMul (p q : Mat) (i : Fin Config.nMax) :
    (matMul p q).col.get i = if i.val < p.n then columnSum p (q.col.get i) else 0 := by
  rw [columnSum_eq_matVec, q.get_col]
  exact get_matOf _ _ i

/-- Settles O22: the checks of two sources, and the columns of the sum and the product. -/
theorem matrixAddAndMultiply : Obligations.MatrixAddAndMultiply := by
  refine fun s d a b => ⟨fun h => ?_, fun ha hb hne => ?_, fun ha heq =>
    ⟨⟨matAdd (s.mat a) (s.mat b), rfl, get_matAdd _ _, ?_⟩,
      ⟨matMul (s.mat a) (s.mat b), rfl, get_matMul _ _, ?_⟩⟩⟩
  · exact ⟨combineMats_of_unwritten h, combineMats_of_unwritten h⟩
  · exact ⟨combineMats_of_width_ne ha hb hne, combineMats_of_width_ne ha hb hne⟩
  · exact combineMats_of_width_eq ha heq
  · exact combineMats_of_width_eq ha heq

/-! ### The product with a vector -/

theorem tooWide_iff {n : Nat} {v : Word} : tooWide n v = true ↔ n < 32 ∧ v >>> n ≠ 0 := by
  simp [tooWide]

theorem not_tooWide_iff {n : Nat} {v : Word} : ¬ tooWide n v = true ↔ 32 ≤ n ∨ v >>> n = 0 := by
  rw [tooWide_iff, not_and_or, not_not, Nat.not_lt]

/-- Settles O23: the checks in order, and the product as the sum of the selected columns. -/
theorem matrixTimesVector : Obligations.MatrixTimesVector := by
  refine fun s a => ⟨fun h => ?_, fun hn hlt hv => ?_, fun hn hv => ?_⟩
  · exact if_pos h
  · exact (if_neg hn).trans (if_pos (tooWide_iff.mpr ⟨hlt, hv⟩))
  · rw [columnSum_eq_matVec]
    exact (if_neg hn).trans (if_neg (not_tooWide_iff.mpr hv))

/-! ### Moves -/

/-- The exchange buffer after MGET: the columns below the width, then zeros (rule R83). -/
theorem get_putXb_columns (p : Mat) (s : State) (i : Fin Config.xbLen) :
    (putXb (p.col.toList.take p.n) s).xb.get i = if i.val < p.n then p.column i.val else 0 := by
  rw [get_putXb, List.getD_eq_getElem?_getD, List.getElem?_take]
  split
  · rw [Mat.column, List.getD_eq_getElem?_getD]
  · rfl

theorem putXb_eq_of_length {l : List Word} {n : Nat} (h : l.length = n) :
    putXb l s = { s with xb := (putXb l s).xb, xlen := n } := by
  rw [← h]
  rfl

theorem length_columns {p : Mat} (hle : p.n ≤ 32) : (p.col.toList.take p.n).length = p.n :=
  List.length_take_of_le (hle.trans_eq p.col.length_toList.symm)

theorem execMget_of_written {a : MReg} (hn : (s.mat a).n ≠ 0) :
    execMget a s = .next (putXb ((s.mat a).col.toList.take (s.mat a).n) s) :=
  if_neg hn

section
variable {d : MReg} (hn : (s.mat d).n ≠ 0)
include hn

theorem execMsetcol_of_index_ge (hidx : (s.mat d).n ≤ s.arg1.toNat) :
    execMsetcol d s = .next (raiseFault .range (encode (.msetcol d)) s) :=
  (if_neg hn).trans (if_pos hidx)

theorem execMsetcol_of_tooWide (hidx : s.arg1.toNat < (s.mat d).n) (hv : tooWide (s.mat d).n s.arg0 = true) :
    execMsetcol d s = .next (raiseFault .range (encode (.msetcol d)) s) :=
  (if_neg hn).trans ((if_neg (Nat.not_le.mpr hidx)).trans (if_pos hv))

theorem execMsetcol_of_fits (hidx : s.arg1.toNat < (s.mat d).n) (hv : ¬ tooWide (s.mat d).n s.arg0 = true) :
    execMsetcol d s =
      .next (setMat d { s.mat d with col := setColumn (s.mat d).col s.arg1.toNat s.arg0 } s) :=
  (if_neg hn).trans ((if_neg (Nat.not_le.mpr hidx)).trans (if_neg hv))

end

/-- Settles O24: each command's checks in order, and the words it writes. -/
theorem matrixMoves : Obligations.MatrixMoves := by
  refine fun s d => ⟨fun _ => rfl, fun h => ⟨if_pos h, if_pos h⟩, fun hn hle =>
    ⟨⟨_, get_putXb_columns (s.mat d) s, ?_⟩, fun hidx => ?_, fun hidx hlt hv => ?_, fun hidx hv =>
      ⟨{ s.mat d with col := setColumn (s.mat d).col s.arg1.toNat s.arg0 }, rfl, fun i => ?_, ?_⟩⟩⟩
  · exact (execMget_of_written hn).trans (congrArg _ (putXb_eq_of_length (length_columns hle)))
  · exact execMsetcol_of_index_ge hn hidx
  · exact execMsetcol_of_tooWide hn hidx (tooWide_iff.mpr ⟨hlt, hv⟩)
  · exact (get_setColumn _ _ _ i).trans (if_congr eq_comm rfl rfl)
  · exact execMsetcol_of_fits hn hidx (not_tooWide_iff.mpr (hv.imp_left Eq.ge))

/-! ### The power -/

theorem powExponent_lt (s : State) : powExponent s < 2 ^ 64 := by
  rw [powExponent_eq]
  have := s.arg0.isLt
  have := s.arg1.isLt
  omega

/-- Settles O25: the squaring loop is the product of so many factors. -/
theorem matrixPower : Obligations.MatrixPower := by
  refine fun s d a => ⟨fun h => if_pos h, fun hn hok => ?_⟩
  have hpow : exec (.mpow d a) s = .next (setMat d (matPow (s.mat a) (powExponent s)) s) := if_neg hn
  rw [hpow, matPow_eq_iterate hok (powExponent_lt s), powExponent_eq]
  rfl

end Sys2Proof.Machine
end

section
/-! PROOFS. The generator operations on one unit: the next state on a seeded unit, and E_UNSEEDED with the
command's word on an unseeded one, said once for the ten units; then ADV, CUR, SEED and MIX by each unit's own
formulas (rules R85 to R203). -/

namespace Sys2Proof.Machine

/-! ### The words of the generator commands -/

section
variable (u : UnitId)

theorem encode_advOf : encode (advOf u) = genWord 0x21 u := by cases u <;> rfl

theorem encode_curOf : encode (curOf u) = genWord 0x22 u := by cases u <;> rfl

theorem encode_getstOf : encode (getstOf u) = genWord 0x23 u := by cases u <;> rfl

theorem encode_setstOf : encode (setstOf u) = genWord 0x24 u := by cases u <;> rfl

theorem encode_sanOf : encode (sanOf u) = genWord 0x25 u := by cases u <;> rfl

theorem encode_mixOf : encode (mixOf u) = genWord 0x27 u := by cases u <;> rfl

end

/-! ### Seeded and unseeded units -/

section
variable {u : UnitId} {i : Instr} {s done : State}

theorem needSeeded_of_seeded (hs : s.isSeeded u = true) : needSeeded u i s done = .next done :=
  if_pos hs

theorem needSeeded_of_unseeded (hs : s.isSeeded u = false) :
    needSeeded u i s done = .next (raiseFault .unseeded (encode i) s) :=
  if_neg (Bool.eq_false_iff.mp hs)

theorem exec_advOf_of_seeded (hs : s.isSeeded u = true) :
    exec (advOf u) s = .next
      { setUnit u (stepUnit u (s.unit u)) s with res := outUnit s.mwcComb u (stepUnit u (s.unit u)) } := by
  rw [exec_advOf, needSeeded_of_seeded hs]

theorem exec_advOf_of_unseeded (hs : s.isSeeded u = false) :
    exec (advOf u) s = .next (raiseFault .unseeded (genWord 0x21 u) s) := by
  rw [exec_advOf, needSeeded_of_unseeded hs, encode_advOf]

theorem exec_curOf_of_seeded (hs : s.isSeeded u = true) :
    exec (curOf u) s = .next { s with res := outUnit s.mwcComb u (s.unit u) } := by
  rw [exec_curOf, needSeeded_of_seeded hs]

theorem exec_curOf_of_unseeded (hs : s.isSeeded u = false) :
    exec (curOf u) s = .next (raiseFault .unseeded (genWord 0x22 u) s) := by
  rw [exec_curOf, needSeeded_of_unseeded hs, encode_curOf]

theorem exec_getstOf_of_seeded (hs : s.isSeeded u = true) :
    exec (getstOf u) s = .next (putXb (tupleUnit u (s.unit u)) s) := by
  rw [exec_getstOf, needSeeded_of_seeded hs]

theorem exec_getstOf_of_unseeded (hs : s.isSeeded u = false) :
    exec (getstOf u) s = .next (raiseFault .unseeded (genWord 0x23 u) s) := by
  rw [exec_getstOf, needSeeded_of_unseeded hs, encode_getstOf]

theorem exec_sanOf_of_seeded (hs : s.isSeeded u = true) :
    exec (sanOf u) s = .next (setUnit u (sanUnit u (s.unit u)) s) := by
  rw [exec_sanOf, needSeeded_of_seeded hs]

theorem exec_sanOf_of_unseeded (hs : s.isSeeded u = false) :
    exec (sanOf u) s = .next (raiseFault .unseeded (genWord 0x25 u) s) := by
  rw [exec_sanOf, needSeeded_of_unseeded hs, encode_sanOf]

/-- MIX of a unit that has a one-limb mixer folds in every limb of the queue. -/
theorem exec_mixOf_of_seeded {f : UnitState u → Word → UnitState u} (hf : mixUnit s.mwcComb u = some f)
    (hs : s.isSeeded u = true) :
    exec (mixOf u) s =
      .next { setUnit u ((s.sq.filterMap limbOf).foldl f (s.unit u)) s with sq := [] } := by
  rw [exec_mixOf, hf]
  exact needSeeded_of_seeded hs

theorem exec_mixOf_of_unseeded {f : UnitState u → Word → UnitState u} (hf : mixUnit s.mwcComb u = some f)
    (hs : s.isSeeded u = false) :
    exec (mixOf u) s = .next (raiseFault .unseeded (genWord 0x27 u) s) := by
  rw [exec_mixOf, hf, ← encode_mixOf]
  exact needSeeded_of_unseeded hs

end

/-! ### Advancing and reading the output -/

/-- `Out_MWC64(s) = s[31:0]` as the low 32 bits (rule R120). -/
theorem outMwc64_eq (v : DWord) : outMwc64 v = v.setWidth 32 :=
  (BitVec.setWidth_eq_extractLsb' (by decide)).symm

/-- Settles O29: each unit's recurrence is its advance. -/
theorem advancePrimitives : Obligations.AdvancePrimitives := by
  refine fun s => ⟨needSeeded_of_seeded (u := .cong), exec_advOf_of_seeded (u := .shr3),
    exec_advOf_of_seeded (u := .mwc), fun hs => ?_, fun u _ => exec_advOf_of_unseeded⟩
  simp only [← outMwc64_eq]
  exact exec_advOf_of_seeded (u := .mwc64) hs

/-- Settles O33: each unit's formula is its output function. -/
theorem currentOutputs : Obligations.CurrentOutputs := by
  intro s rotated
  refine ⟨exec_curOf_of_seeded (u := .cong), exec_curOf_of_seeded (u := .shr3),
    exec_curOf_of_seeded (u := .mwc), fun hs => ?_, exec_curOf_of_seeded (u := .lfsr113),
    exec_curOf_of_seeded (u := .lfsr88), exec_curOf_of_seeded (u := .kiss), fun hs => ?_,
    exec_curOf_of_seeded (u := .lfib4), exec_curOf_of_seeded (u := .swb), fun u => exec_curOf_of_unseeded⟩
  · rw [← outMwc64_eq]
    exact exec_curOf_of_seeded (u := .mwc64) hs
  · rw [← outMwc64_eq]
    exact exec_curOf_of_seeded (u := .kiss2) hs

/-! ### Seeding and mixing -/

theorem seedWith_eq_foldl {σ : Type} (mix1 : σ → Word → σ) (x : Bool) (k : Nat) (q : List SqEntry) (st : σ) :
    seedWith mix1 x k q st = (if x then seedExtras k q else []).foldl mix1 st := by
  cases x <;> rfl

/-- Settles O38: the seed fields are those of `seedUnit`, and X chooses whether the extras are folded in. -/
theorem seedPrimitives : Obligations.SeedPrimitives := by
  intro s x ones extras
  have hextras {σ : Type} (mix1 : σ → Word → σ) (k : Nat) (st : σ) :
      (extras k).foldl mix1 st = seedWith mix1 x k s.sq st := (seedWith_eq_foldl mix1 x k s.sq st).symm
  simp only [hextras]
  exact ⟨exec_seedOf .cong s x, exec_seedOf .shr3 s x, exec_seedOf .mwc s x, exec_seedOf .mwc64 s x⟩

/-- Settles O42: the fold of each unit's one-limb mixer. -/
theorem mixPrimitives : Obligations.MixPrimitives := by
  intro s ws
  refine ⟨exec_mixOf_of_seeded (u := .cong) rfl, exec_mixOf_of_seeded (u := .shr3) rfl,
    exec_mixOf_of_seeded (u := .mwc) rfl, fun hs => ?_, fun u hu hs => ?_⟩
  · simp only [← outMwc64_eq]
    exact exec_mixOf_of_seeded (u := .mwc64) rfl hs
  · fin_cases hu
    exacts [exec_mixOf_of_unseeded (u := .cong) rfl hs, exec_mixOf_of_unseeded (u := .shr3) rfl hs,
      exec_mixOf_of_unseeded (u := .mwc) rfl hs, exec_mixOf_of_unseeded (u := .mwc64) rfl hs]

end Sys2Proof.Machine
end

section
/-! PROOFS. The state tuple of a unit: GETST writes it out, SETST takes it from the queue, and the sanitize
functions that SETST and SAN apply give a valid state and keep one (rules R91 to R93 and those of the other
units, R97, R110, R121, R134). -/

namespace Sys2Proof.Machine

/-! ### GETST -/

/-- The rotated ring in the wording of rule R36. -/
theorem rotated_eq_ringWords (buf : Table Word Config.ring) (cursor : Fin Config.ring) :
    rotated buf cursor = ringWords buf cursor := by
  rw [rotated, listFrom_eq_map, ringWords, List.range_eq_range']
  refine List.map_congr_left fun i _ => congrArg buf.get (Fin.ext ?_)
  simp [Fin.val_add, Fin.ofNat]

theorem tupleUnit_eq_stateTuple (s : State) (u : UnitId) : tupleUnit u (s.unit u) = stateTuple s u := by
  cases u with
  | lfib4 => exact rotated_eq_ringWords _ _
  | swb => exact congrArg (· ++ _) (rotated_eq_ringWords _ _)
  | _ => rfl

/-- Settles O34: the exchange buffer takes the tuple, whose length is the unit's. -/
theorem getState : Obligations.GetState := by
  intro s u
  have hlen : (stateTuple s u).length = tupleLength u := tupleUnit_eq_stateTuple s u ▸ length_tupleUnit u _
  refine ⟨fun hs => ?_, hlen, exec_getstOf_of_unseeded⟩
  rw [exec_getstOf_of_seeded hs, tupleUnit_eq_stateTuple, putXb_eq_of_length hlen]
  rfl

/-! ### SETST -/

section
variable {u : UnitId} {s : State}

/-- SETST on a queue of exactly the tuple's limbs, the unit's new fields known by another name. -/
theorem exec_setstOf_of_limbs {l : List Word} (hq : s.sq = l.map .limb) (hlen : l.length = tupleLength u)
    {v : UnitState u} (hv : sanUnit u (untupleUnit u ⟨l, hlen⟩) = v) :
    exec (setstOf u) s = .next (setUnit u v (markSeeded u s)) := by
  have hvals : stateVals (tupleLength u) s.sq = some ⟨l, hlen⟩ := stateVals_eq_some.mpr hq
  rw [exec_setstOf, withStateVals, hvals, ← hv]

/-- SETST on any other queue. -/
theorem exec_setstOf_of_not_limbs (hq : ¬ ∃ l : List Word, l.length = tupleLength u ∧ s.sq = l.map .limb) :
    exec (setstOf u) s = .next (raiseFault .seedLen (genWord 0x24 u) s) := by
  have hnone : stateVals (tupleLength u) s.sq = none :=
    Option.eq_none_iff_forall_ne_some.mpr fun v hv => hq ⟨v.toList, v.length_toList, stateVals_eq_some.mp hv⟩
  rw [exec_setstOf, withStateVals, hnone, ← encode_setstOf]
  rfl

end

/-- The ring and the borrow of SWB, put one after the other and taken apart again (rule R202). -/
theorem swbOfTuple_append (v : Table Word 256) (b : Word) (hlen : (v.toList ++ [b]).length = 257) :
    swbOfTuple ⟨v.toList ++ [b], hlen⟩ = ⟨v, 0, b.getLsbD 0⟩ := by
  have hbuf : (Table.tab Config.ring fun i => (v.toList ++ [b]).getD i 0) = v := Table.ext_get fun i => by
    rw [Table.get_tab, v.get_eq_getD i 0]
    exact List.getD_append _ _ _ _ (v.length_toList.symm ▸ i.isLt)
  have hlast : Table.get ⟨v.toList ++ [b], hlen⟩ (Fin.last Config.ring) = b := by
    rw [Table.get_eq_getD _ _ 0]
    simp [v.length_toList]
  rw [swbOfTuple, hbuf, hlast]

/-- Settles O35: the queue's limbs are the tuple that the unit's fields are made of. -/
theorem setState : Obligations.SetState := by
  refine fun s => ⟨fun a hq => ?_, fun a b hq => ?_, fun a b c d hq => ?_, fun a b c hq => ?_, fun v hq => ?_,
    fun v b hq => ?_, fun u => exec_setstOf_of_not_limbs⟩
  · have hq : s.sq = [a].map .limb := hq
    exact ⟨exec_setstOf_of_limbs (u := .cong) hq rfl rfl, exec_setstOf_of_limbs (u := .shr3) hq rfl rfl⟩
  · have hq : s.sq = [a, b].map .limb := hq
    exact ⟨exec_setstOf_of_limbs (u := .mwc) hq rfl rfl, exec_setstOf_of_limbs (u := .mwc64) hq rfl rfl⟩
  · have hq : s.sq = [a, b, c, d].map .limb := hq
    exact ⟨exec_setstOf_of_limbs (u := .lfsr113) hq rfl rfl, exec_setstOf_of_limbs (u := .kiss) hq rfl rfl,
      exec_setstOf_of_limbs (u := .kiss2) hq rfl rfl⟩
  · exact exec_setstOf_of_limbs (u := .lfsr88) (l := [a, b, c]) hq rfl rfl
  · exact exec_setstOf_of_limbs (u := .lfib4) hq v.length_toList rfl
  · have hlen : (v.toList ++ [b]).length = 257 := by rw [List.length_append, v.length_toList]; rfl
    have hq : s.sq = (v.toList ++ [b]).map .limb := by rw [hq, List.map_append]; rfl
    exact exec_setstOf_of_limbs (u := .swb) hq hlen (swbOfTuple_append v b hlen)

/-! ### The sanitize functions by value -/

theorem toNat_sanMod {m : Nat} (hm : 0 < m) (h32 : m ≤ 2 ^ 32) (v : Word) :
    (sanMod v m).toNat = (if v.toNat % m ≠ 0 then v.toNat else 0xFFFFFFFF - v.toNat) % m := by
  have hfit (x : Nat) : (BitVec.ofNat 32 (x % m)).toNat = x % m :=
    Nat.mod_eq_of_lt ((Nat.mod_lt x hm).trans_le h32)
  unfold sanMod
  split
  · exact hfit _
  · rw [toNat_xor_ones]
    exact hfit _

theorem toNat_xor_ones64 (v : DWord) : (v ^^^ 0xFFFFFFFFFFFFFFFF).toNat = 2 ^ 64 - 1 - v.toNat := by
  rw [← BitVec.toNat_not, ← BitVec.xor_allOnes]
  rfl

theorem toNat_sanMwc64 (v : DWord) :
    (sanMwc64 v).toNat = (if v.toNat % mwc64Mod ≠ 0 then v.toNat else 0xFFFFFFFFFFFFFFFF - v.toNat) % mwc64Mod := by
  have hfit (x : Nat) : (BitVec.ofNat 64 (x % mwc64Mod)).toNat = x % mwc64Mod :=
    Nat.mod_eq_of_lt ((Nat.mod_lt x (by decide)).trans_le (by decide))
  unfold sanMwc64
  split
  · exact hfit _
  · rw [toNat_xor_ones64]
    exact hfit _

/-- A value between 1 and `m - 1` is its own remainder, and no multiple of `m`. -/
theorem sanMod_of_range {m : Nat} {v : Word} (hv : 1 ≤ v.toNat ∧ v.toNat < m) : sanMod v m = v := by
  have hmod : v.toNat % m = v.toNat := Nat.mod_eq_of_lt hv.2
  rw [sanMod, hmod, if_pos (Nat.one_le_iff_ne_zero.mp hv.1), BitVec.ofNat_toNat, BitVec.setWidth_eq]

theorem sanMwc64_of_range {v : DWord} (hv : mwc64Ok v) : sanMwc64 v = v := by
  have hmod : v.toNat % mwc64Mod = v.toNat := Nat.mod_eq_of_lt hv.2
  rw [sanMwc64, hmod, if_pos (Nat.one_le_iff_ne_zero.mp hv.1), BitVec.ofNat_toNat, BitVec.setWidth_eq]

theorem sanMwc_of_range {m : Mwc} (hm : mwcOk m) : sanMwc m = m :=
  congrArg₂ Mwc.mk (sanMod_of_range hm.1) (sanMod_of_range hm.2)

theorem sanShr3_of_ne_zero {y : Word} (hy : y ≠ 0) : sanShr3 y = y :=
  if_neg hy

theorem laneSan_eq (p : Lane) (z : Word) : laneSan p z = if z.toNat < 2 ^ p.s then ~~~z else z := by
  rw [← BitVec.xor_allOnes]
  rfl

theorem laneSan_of_laneOk {p : Lane} {z : Word} (hz : laneOk p z) : laneSan p z = z :=
  if_neg (Nat.not_lt.mpr hz)

/-- Settles O37, sanitizer by sanitizer. -/
theorem sanitizersGiveValidStates : Obligations.SanitizersGiveValidStates := by
  refine ⟨fun v => ⟨?_, ?_, mwcOk_sanMwc ⟨v, v⟩, rfl, sanShr3_ne_zero v⟩, fun m hm => ?_, fun v => ?_,
    fun p hp z => ⟨laneSan_eq p z, laneOk_laneSan_of_mem hp z⟩⟩
  · exact toNat_sanMod (by decide) (by decide) v
  · exact toNat_sanMod (by decide) (by decide) v
  · exact ⟨sanMod_of_range hm.1, sanMod_of_range hm.2⟩
  · exact ⟨toNat_sanMwc64 v, mwc64Ok_sanMwc64 v, sanMwc64_of_range⟩

/-! ### SAN -/

/-- A valid state is kept by the unit's sanitization. -/
theorem sanUnit_of_valid {u : UnitId} {v : UnitState u} (hv : validUnit u v) : sanUnit u v = v := by
  cases u with
  | cong => rfl
  | shr3 => exact sanShr3_of_ne_zero hv
  | mwc => exact sanMwc_of_range hv
  | mwc64 => exact sanMwc64_of_range hv
  | lfsr113 =>
    obtain ⟨h₁, h₂, h₃, h₄⟩ := hv
    rw [sanUnit, map113, laneSan_of_laneOk h₁, laneSan_of_laneOk h₂, laneSan_of_laneOk h₃, laneSan_of_laneOk h₄]
  | lfsr88 =>
    obtain ⟨h₁, h₂, h₃⟩ := hv
    rw [sanUnit, map88, laneSan_of_laneOk h₁, laneSan_of_laneOk h₂, laneSan_of_laneOk h₃]
  | kiss =>
    obtain ⟨hm, hy⟩ := hv
    rw [sanUnit, sanKiss, sanMwc_of_range hm, sanShr3_of_ne_zero hy]
    rfl
  | kiss2 =>
    obtain ⟨hm, hy⟩ := hv
    rw [sanUnit, sanKiss2, sanMwc64_of_range hm, sanShr3_of_ne_zero hy]
    rfl
  | lfib4 => rfl
  | swb => rfl

theorem setUnit_unit (u : UnitId) (s : State) : setUnit u (s.unit u) s = s := by
  cases u <;> rfl

/-- Settles O36: a seeded unit of a sound state is valid, and sanitization keeps it. -/
theorem sanitizeCommands : Obligations.SanitizeCommands := by
  refine fun s => ⟨exec_sanOf_of_seeded (u := .cong), exec_sanOf_of_seeded (u := .shr3),
    exec_sanOf_of_seeded (u := .mwc), exec_sanOf_of_seeded (u := .mwc64), exec_sanOf_of_seeded (u := .lfsr113),
    exec_sanOf_of_seeded (u := .lfsr88), exec_sanOf_of_seeded (u := .kiss), exec_sanOf_of_seeded (u := .kiss2),
    exec_sanOf_of_seeded (u := .lfib4), exec_sanOf_of_seeded (u := .swb), fun u h hs => ?_,
    fun u => exec_sanOf_of_unseeded⟩
  rw [exec_sanOf_of_seeded hs, sanUnit_of_valid (valid_of_sound h u hs), setUnit_unit]

end Sys2Proof.Machine
end

section
/-! PROOFS. Linear maps on words by their columns as numbers: the columns of a map applied 2^k times come from
those of the map by k squarings, which the kernel evaluates. -/

namespace Sys2Proof.Machine

/-- The values of a map at the words of one bit, as numbers. -/
def columnsOf (f : Word → Word) : List Nat :=
  (List.range 32).map fun i => (f ((1 : Word) <<< i)).toNat

/-- The XOR of the numbers whose bit of `v` is set, the first number standing at bit `i`. It is `xorColumns`
on numbers, which the kernel evaluates fast. -/
def xorSelect : List Nat → Nat → Nat → Nat
  | [], _, _ => 0
  | c :: cs, i, v => ((v >>> i) % 2 * c) ^^^ xorSelect cs (i + 1) v

theorem toNat_xorColumns (cs : List Word) (i : Nat) (v : Word) :
    (xorColumns cs i v).toNat = xorSelect (cs.map BitVec.toNat) i v.toNat := by
  induction cs generalizing i with
  | nil => rfl
  | cons c cs ih =>
    have hsel : (if v.getLsbD i then c else 0).toNat = (v.toNat >>> i) % 2 * c.toNat := by
      rw [BitVec.getLsbD, Nat.shiftRight_eq_div_pow, ← Nat.toNat_testBit]
      cases v.toNat.testBit i <;> simp
    rw [xorColumns, BitVec.toNat_xor, hsel, ih, List.map_cons, xorSelect]

/-- A linear map is known by its columns. -/
theorem XorLinear.toNat_apply {f : Word → Word} (hf : XorLinear f) (v : Word) :
    (f v).toNat = xorSelect (columnsOf f) 0 v.toNat := by
  calc (f v).toNat = (f (xorColumns ((List.range 32).map fun i => (1 : Word) <<< i) 0 v)).toNat := by
        rw [xorColumns_bits (le_refl 32) v.isLt]
    _ = xorSelect (columnsOf f) 0 v.toNat := by
        rw [hf.map_xorColumns, toNat_xorColumns, List.map_map, List.map_map]
        rfl

theorem XorLinear.columnsOf_comp {f : Word → Word} (hf : XorLinear f) (g : Word → Word) :
    columnsOf (fun z => f (g z)) = (columnsOf g).map (xorSelect (columnsOf f) 0) := by
  refine Eq.symm (List.map_map.trans ?_)
  exact List.map_congr_left fun _ _ => (hf.toNat_apply _).symm

/-- The columns of a map squared `k` times. -/
def squareColumns : Nat → List Nat → List Nat
  | 0, cs => cs
  | k + 1, cs => squareColumns k (cs.map (xorSelect cs 0))

theorem XorLinear.columnsOf_iterate_two_pow {f : Word → Word} (hf : XorLinear f) (k : Nat) :
    columnsOf f^[2 ^ k] = squareColumns k (columnsOf f) := by
  induction k generalizing f with
  | zero => rfl
  | succ k ih =>
    rw [pow_succ', Function.iterate_mul, squareColumns, ← hf.columnsOf_comp]
    exact ih (hf.comp hf)

/-- Linear maps with the same columns are equal. -/
theorem XorLinear.eq_of_columnsOf_eq {f g : Word → Word} (hf : XorLinear f) (hg : XorLinear g)
    (h : columnsOf f = columnsOf g) : f = g :=
  funext fun v => BitVec.eq_of_toNat_eq (by rw [hf.toNat_apply, hg.toNat_apply, h])

theorem XorLinear.iterate {f : Word → Word} (hf : XorLinear f) (n : Nat) : XorLinear f^[n] := by
  induction n with
  | zero => exact XorLinear.id
  | succ n ih => exact ih.comp hf

end Sys2Proof.Machine
end

section
/-! PROOFS. The jumps of CONG, SHR3, MWC and MWC64 as steps: a jump is the step applied as often as the
distance modulo the cycle length, and the cycle length is a period of every valid state, so that jumps by `n`
and by `-n` cancel (rules R87, R94, R99, R106, R111, R118, R122, R129). -/

namespace Sys2Proof.Machine

/-! ### Jumps in general -/

/-- After as many steps as `n` modulo a period, as many as `-n` modulo it come back. -/
theorem iterate_emod_neg {α : Type} {f : α → α} {c : Nat} (hc : 0 < c) {x : α} (h : Function.IsPeriodicPt f c x)
    (n : Int) : f^[(-n % c).toNat] (f^[(n % c).toNat] x) = x := by
  have h₁ := Int.emod_nonneg n (Int.natCast_ne_zero.mpr hc.ne')
  have h₂ := Int.emod_nonneg (-n) (Int.natCast_ne_zero.mpr hc.ne')
  have hdvd : c ∣ (-n % c).toNat + (n % c).toNat := by
    zify
    rw [Int.toNat_of_nonneg h₁, Int.toNat_of_nonneg h₂]
    exact Int.dvd_of_emod_eq_zero (by rw [← Int.add_emod]; simp)
  rw [← Function.iterate_add_apply]
  exact h.trans_dvd hdvd

/-- The signed distance is the 64 bits of ARG1:ARG0 up to whole multiples of 2^64, so ARG0 up to whole
multiples of 2^32 (rules R56, R94). -/
theorem toNat_toInt_append_emod (hi lo : Word) : ((hi ++ lo).toInt % 2 ^ 32).toNat = lo.toNat := by
  have hval : (hi ++ lo).toNat = 2 ^ 32 * hi.toNat + lo.toNat := by
    rw [BitVec.toNat_append, Nat.shiftLeft_eq, Nat.mul_comm, Nat.two_pow_add_eq_or_of_lt lo.isLt]
  have hlo := lo.isLt
  rw [BitVec.toInt_eq_toNat_cond, hval]
  split <;> omega

/-! ### CONG -/

/-- `1 + r + … + r^(e-1)` for the multiplier `r` of CONG (rule R87). -/
def congSum (e : Nat) : Nat :=
  ∑ i ∈ Finset.range e, 69069 ^ i

theorem stepCong_ofNat (a : Nat) : stepCong (BitVec.ofNat 32 a) = BitVec.ofNat 32 (69069 * a + 12345) := by
  rw [BitVec.ofNat_add, BitVec.ofNat_mul]
  rfl

/-- The closed form of `e` steps of the recurrence (rule R87). -/
theorem iterate_stepCong (e : Nat) (x : Word) :
    stepCong^[e] x = BitVec.ofNat 32 (69069 ^ e * x.toNat + 12345 * congSum e) := by
  induction e with
  | zero => simp [congSum]
  | succ e ih =>
    have hsum : congSum (e + 1) = 69069 * congSum e + 1 := by
      rw [congSum, geom_sum_succ, congSum]
    rw [Function.iterate_succ_apply', ih, stepCong_ofNat, hsum]
    refine congrArg (BitVec.ofNat 32) ?_
    ring

/-- The division of rule R87 gives the sum: `0x50C599BB` inverts 17267 = 69068 / 4 modulo 2^32. -/
theorem congGeom_eq {e : Nat} (he : e < 2 ^ 64) : congGeom e = congSum e % 2 ^ 32 := by
  have hsum : congSum e * 69068 + 1 = 69069 ^ e := geom_sum_mul_add 69068 e
  rw [congGeom, powMod_eq_pow _ _ he, ← hsum]
  generalize congSum e = g
  omega

theorem ofNat_powMod_cong {e : Nat} (he : e < 2 ^ 64) (x : Word) :
    BitVec.ofNat 32 (powMod 69069 e (2 ^ 32) * x.toNat + 12345 * congGeom e) = stepCong^[e] x := by
  rw [iterate_stepCong, congGeom_eq he, powMod_eq_pow _ _ he]
  refine BitVec.eq_of_toNat_eq ?_
  rw [BitVec.toNat_ofNat, BitVec.toNat_ofNat]
  exact ((Nat.mod_modEq _ _).mul_right _).add ((Nat.mod_modEq _ _).mul_left _)

theorem jumpCong_eq_iterate (x : Word) (n : Int) : jumpCong x n = stepCong^[(n % congCycle).toNat] x :=
  ofNat_powMod_cong ((toNat_emod_lt n (by decide)).trans (by decide)) x

/-- The closed form at the cycle length is the identity (rule R87). -/
theorem isPeriodicPt_stepCong (x : Word) : Function.IsPeriodicPt stepCong congCycle x := by
  have hpow : powMod 69069 congCycle (2 ^ 32) = 1 := by decide +kernel
  have hgeom : congGeom congCycle = 0 := by decide +kernel
  have h := ofNat_powMod_cong (e := congCycle) (by decide) x
  rw [hpow, hgeom] at h
  exact h.symm.trans (by simp)

/-! ### MWC and MWC64 -/

/-- The lane's step multiplies by `a` modulo `m`, and `a` has the order `cycle` or a divisor of it. -/
structure IsMulStep {w : Nat} (a m cycle : Nat) (step : BitVec w → BitVec w) : Prop where
  fits : m ≤ 2 ^ w
  coprime : Nat.Coprime m a
  cycle_pos : 0 < cycle
  cycle_lt : cycle < 2 ^ 64
  order : powMod a cycle m = 1
  toNat_step : ∀ v : BitVec w, 1 ≤ v.toNat → v.toNat < m → (step v).toNat = a * v.toNat % m

section
variable {w a m cycle : Nat} {step : BitVec w → BitVec w} (h : IsMulStep a m cycle step) {v : BitVec w}
  (hv : 1 ≤ v.toNat ∧ v.toNat < m)
include h hv

theorem IsMulStep.toNat_iterate (e : Nat) : (step^[e] v).toNat = a ^ e * v.toNat % m := by
  induction e with
  | zero => simp [Nat.mod_eq_of_lt hv.2]
  | succ e ih =>
    obtain ⟨hpos, hlt⟩ := pow_mul_mod_pos h.coprime e hv.1 hv.2
    rw [Function.iterate_succ_apply', h.toNat_step _ (ih ▸ hpos) (ih ▸ hlt), ih, Nat.mul_mod_mod, ← mul_assoc,
      ← pow_succ']

theorem IsMulStep.jump_eq_iterate (n : Int) :
    BitVec.ofNat w (jumpMul a m cycle v.toNat n) = step^[(n % cycle).toNat] v := by
  rw [jumpMul_eq h.cycle_pos h.cycle_lt, ← h.toNat_iterate hv, BitVec.ofNat_toNat, BitVec.setWidth_eq]

theorem IsMulStep.isPeriodicPt : Function.IsPeriodicPt step cycle v := by
  refine BitVec.eq_of_toNat_eq ?_
  rw [h.toNat_iterate hv, ← Nat.mod_mul_mod, ← powMod_eq_pow _ _ h.cycle_lt, h.order, one_mul,
    Nat.mod_eq_of_lt hv.2]

/-- Whole cycles of a distance do not count. -/
theorem IsMulStep.jump_natCast (n : Nat) :
    BitVec.ofNat w (jumpMul a m cycle v.toNat n) = step^[n] v := by
  rw [h.jump_eq_iterate hv, ← Int.natCast_emod, Int.toNat_natCast, (h.isPeriodicPt hv).iterate_mod_apply]

theorem IsMulStep.jump_jump_neg (n : Int) :
    BitVec.ofNat w (jumpMul a m cycle (BitVec.ofNat w (jumpMul a m cycle v.toNat n)).toNat (-n)) = v := by
  have hrange : 1 ≤ (step^[(n % cycle).toNat] v).toNat ∧ (step^[(n % cycle).toNat] v).toNat < m := by
    rw [h.toNat_iterate hv]
    exact pow_mul_mod_pos h.coprime _ hv.1 hv.2
  rw [h.jump_eq_iterate hv, h.jump_eq_iterate hrange, iterate_emod_neg h.cycle_pos (h.isPeriodicPt hv)]

end

/-- The step of an MWC lane takes `hi * 2^16 + lo` to `a * lo + hi`, which is `a` times it modulo
`a * 2^16 - 1` (rule R108). -/
theorem mwcStep_eq_mul_mod (a : Nat) {u : Nat} (h : 1 ≤ u ∧ u < a * 2 ^ 16 - 1) :
    a * (u % 2 ^ 16) + u / 2 ^ 16 = a * u % (a * 2 ^ 16 - 1) := by
  have hval : a * u = a * (u % 2 ^ 16) + u / 2 ^ 16 + (a * 2 ^ 16 - 1) * (u / 2 ^ 16) := by
    have hpos : 1 ≤ a * 2 ^ 16 := by omega
    calc a * u = a * (2 ^ 16 * (u / 2 ^ 16) + u % 2 ^ 16) := by rw [Nat.div_add_mod]
      _ = a * (u % 2 ^ 16) + (a * 2 ^ 16 - 1 + 1) * (u / 2 ^ 16) := by rw [Nat.sub_add_cancel hpos]; ring
      _ = _ := by ring
  rw [hval, Nat.add_mul_mod_self_left, Nat.mod_eq_of_lt (mwcStep_range a h).2]

theorem toNat_mwcStep {a : Nat} (hfits : a * 2 ^ 16 - 1 ≤ 2 ^ 32) {u : Word}
    (h : 1 ≤ u.toNat ∧ u.toNat < a * 2 ^ 16 - 1) :
    (BitVec.ofNat 32 a * (u &&& (0xFFFF : Word)) + (u >>> 16)).toNat = a * u.toNat % (a * 2 ^ 16 - 1) := by
  obtain ⟨hlo, hhi⟩ := toNat_halves u
  have hstep : BitVec.ofNat 32 a * (u &&& (0xFFFF : Word)) + (u >>> 16) =
      BitVec.ofNat 32 (a * (u.toNat % 2 ^ 16) + u.toNat / 2 ^ 16) := by
    rw [← hlo, ← hhi, BitVec.ofNat_add, BitVec.ofNat_mul, BitVec.ofNat_toNat, BitVec.ofNat_toNat,
      BitVec.setWidth_eq, BitVec.setWidth_eq]
  rw [hstep, BitVec.toNat_ofNat, Nat.mod_eq_of_lt ((mwcStep_range a h).2.trans_le hfits), mwcStep_eq_mul_mod a h]

theorem isMulStep_stepU : IsMulStep mwcuMult mwcuMod mwcuCycle stepU where
  fits := by decide
  coprime := by norm_num [mwcuMod, mwcuMult]
  cycle_pos := by decide
  cycle_lt := by decide
  order := by decide +kernel
  toNat_step _ hpos hlt := toNat_mwcStep (a := 36969) (by decide) ⟨hpos, hlt⟩

theorem isMulStep_stepL : IsMulStep mwclMult mwclMod mwclCycle stepL where
  fits := by decide
  coprime := by norm_num [mwclMod, mwclMult]
  cycle_pos := by decide
  cycle_lt := by decide
  order := by decide +kernel
  toNat_step _ hpos hlt := toNat_mwcStep (a := 18000) (by decide) ⟨hpos, hlt⟩

theorem isMulStep_stepMwc64 : IsMulStep mwc64Mult mwc64Mod mwc64Cycle stepMwc64 where
  fits := by decide
  coprime := by norm_num [mwc64Mod, mwc64Mult]
  cycle_pos := by decide
  cycle_lt := by decide
  order := by decide +kernel
  toNat_step v _ _ := Nat.mod_eq_of_lt ((Nat.mod_lt _ (by decide)).trans (by decide))

/-! ### SHR3 -/

/-- 2^32 steps of SHR3 are one step, by squaring its columns 32 times. -/
theorem iterate_stepShr3_two_pow : stepShr3^[2 ^ 32] = stepShr3 :=
  (xorLinear_stepShr3.iterate _).eq_of_columnsOf_eq xorLinear_stepShr3 (by
    rw [xorLinear_stepShr3.columnsOf_iterate_two_pow]
    decide +kernel)

theorem stepShr3_injective : Function.Injective stepShr3 := fun x y h => by
  by_contra hne
  refine stepShr3_ne_zero (y := x ^^^ y) (fun hxor => hne (BitVec.xor_eq_zero_iff.mp hxor)) ?_
  rw [xorLinear_stepShr3, h, BitVec.xor_self]
  rfl

/-- The cycle length of SHR3 is a period of every word: 2^32 steps are one, and a step can be undone (rule
R99). -/
theorem isPeriodicPt_stepShr3 (y : Word) : Function.IsPeriodicPt stepShr3 shr3Cycle y := by
  have h := congrFun iterate_stepShr3_two_pow y
  have hcycle : 2 ^ 32 = shr3Cycle + 1 := rfl
  rw [hcycle, Function.iterate_succ_apply'] at h
  exact stepShr3_injective h

/-! ### The commands -/

section
variable {s : State} {u : UnitId} {f : UnitState u → UnitState u} (hf : jumpUnit (jumpDistance s) u = some f)
include hf

/-- A jump of a seeded unit, the unit's new fields known by another name. -/
theorem exec_jumpOf_of_seeded {v : UnitState u} (hs : s.isSeeded u = true) (hv : f (s.unit u) = v) :
    exec (jumpOf u) s = .next (setUnit u v s) := by
  rw [exec_jumpOf, hf, ← hv]
  exact needSeeded_of_seeded hs

theorem exec_jumpOf_of_unseeded (hs : s.isSeeded u = false) :
    exec (jumpOf u) s = .next (raiseFault .unseeded (encode (jumpOf u)) s) := by
  rw [exec_jumpOf, hf]
  exact needSeeded_of_unseeded hs

end

/-- Settles O45: the distance modulo the cycle length of CONG is ARG0. -/
theorem jumpCongSteps : Obligations.JumpCongSteps := by
  refine fun s => ⟨fun hs => ?_, exec_jumpOf_of_unseeded (u := .cong) rfl⟩
  have harg := toNat_toInt_append_emod s.arg1 s.arg0
  have hjump : jumpCong s.cong (jumpDistance s) = stepCong^[s.arg0.toNat] s.cong := by
    rw [jumpCong_eq_iterate, jumpDistance_eq]
    exact congrArg (stepCong^[·] s.cong) harg
  exact ⟨exec_jumpOf_of_seeded (u := .cong) rfl hs hjump, harg.symm⟩

/-- Settles O46: a power of the step matrix is so many steps. -/
theorem jumpShr3Steps : Obligations.JumpShr3Steps := by
  refine fun s => ⟨fun hs => ?_, exec_jumpOf_of_unseeded (u := .shr3) rfl⟩
  rw [← jumpDistance_eq]
  exact exec_jumpOf_of_seeded (u := .shr3) rfl hs (jumpShr3_eq_iterate s.shr3 _)

theorem jumpMwc_eq (m : Mwc) (n : Int) :
    jumpMwc m n = ⟨BitVec.ofNat 32 (mwcuMult ^ (n % mwcuCycle).toNat * m.upper.toNat % mwcuMod),
      BitVec.ofNat 32 (mwclMult ^ (n % mwclCycle).toNat * m.lower.toNat % mwclMod)⟩ := by
  rw [← jumpMul_eq (by decide) (by decide), ← jumpMul_eq (by decide) (by decide)]
  rfl

theorem jumpMwc64_eq (v : DWord) (n : Int) :
    jumpMwc64 v n = BitVec.ofNat 64 (mwc64Mult ^ (n % mwc64Cycle).toNat * v.toNat % mwc64Mod) := by
  rw [← jumpMul_eq (by decide) (by decide)]
  rfl

/-- Settles O47: `powmod` is the power modulo the lane's modulus. -/
theorem jumpMultiplicative : Obligations.JumpMultiplicative := by
  intro s n
  have hn : jumpDistance s = n := jumpDistance_eq s
  refine ⟨fun hs => ?_, fun hs => ?_, exec_jumpOf_of_unseeded (u := .mwc) rfl,
    exec_jumpOf_of_unseeded (u := .mwc64) rfl⟩
  · rw [← hn]
    exact exec_jumpOf_of_seeded (u := .mwc) rfl hs (jumpMwc_eq s.mwc _)
  · rw [← hn]
    exact exec_jumpOf_of_seeded (u := .mwc64) rfl hs (jumpMwc64_eq s.mwc64 _)

/-- Settles O48: whole cycles do not count, and the rest is steps of the lane. -/
theorem multiplicativeJumpIsSteps : Obligations.MultiplicativeJumpIsSteps :=
  ⟨fun _ n hm => congrArg₂ Mwc.mk (isMulStep_stepU.jump_natCast hm.1 n) (isMulStep_stepL.jump_natCast hm.2 n),
    fun _ n hv => isMulStep_stepMwc64.jump_natCast hv n⟩

/-- Settles O51: each jump is steps, and the cycle length is a period. -/
theorem jumpBackUndoes : Obligations.JumpBackUndoes := by
  refine fun n => ⟨fun x => ?_, fun m hm => ?_, fun v hv => isMulStep_stepMwc64.jump_jump_neg hv n⟩
  · rw [jumpCong_eq_iterate, jumpCong_eq_iterate]
    exact iterate_emod_neg (by decide) (isPeriodicPt_stepCong x) n
  · exact congrArg₂ Mwc.mk (isMulStep_stepU.jump_jump_neg hm.1 n) (isMulStep_stepL.jump_jump_neg hm.2 n)

/-- Settles O52: the power and `Unity(32)` agree on every vector. -/
theorem shr3CycleCloses : Obligations.Shr3CycleCloses := by
  refine ⟨?_, fun y n => ?_⟩
  · refine (matOk_matPow (matOk_rom 0) _).eq_of_matVec_eq (matOk_unity (le_refl 32)) rfl fun v _ => ?_
    rw [matVec_unity]
    exact (matVec_matPow_rom 0 (by decide) v).trans (isPeriodicPt_stepShr3 v)
  · rw [jumpShr3_eq_iterate, jumpShr3_eq_iterate]
    exact iterate_emod_neg (by decide) (isPeriodicPt_stepShr3 y) n

end Sys2Proof.Machine
end

section
/-! PROOFS. The generator commands of LFSR113 and LFSR88 (rules R131 to R155): the advance, the seeding with
its spread fields, the mixing into the one lane the output selects, and the jump as so many steps of each
lane. -/

namespace Sys2Proof.Machine

/-! ### Advancing and seeding -/

/-- Settles O30: the advance of each unit, where the configured lane constants are those of rules R132 and R133. -/
theorem advanceLfsr : Obligations.AdvanceLfsr :=
  fun _ => ⟨exec_advOf_of_seeded (u := .lfsr113), exec_advOf_of_seeded (u := .lfsr88),
    fun _ _ => exec_advOf_of_unseeded⟩

/-- Settles O39: the seed fields are those of `seedUnit`, and X chooses whether the extras are folded in. -/
theorem seedLfsr : Obligations.SeedLfsr := by
  intro s x extras v
  simp only [extras, ← seedWith_eq_foldl]
  exact ⟨exec_seedOf .lfsr113 s x, exec_seedOf .lfsr88 s x⟩

/-! ### Mixing -/

/-- MIXSEL(k, c) chooses one of `k` (rule R168). -/
theorem mixSel_lt {k : Nat} (hk : 0 < k) (c : Word) : mixSel k c < k := by
  rw [mixSel_eq, Nat.div_lt_iff_lt_mul (Nat.two_pow_pos 32), Nat.mul_comm]
  exact Nat.mul_lt_mul_of_pos_left c.isLt hk

/-- Each lane of LFSR113 after a mix: only the lane that the output selects takes the limb (rule R147). -/
theorem mix1Lfsr113_eq (z : Lfsr113) (w : Word) :
    mix1Lfsr113 z w =
      ⟨if mixSel 4 (out113 z) = 0 then mixLane lane113z1 z.z1 w else z.z1,
        if mixSel 4 (out113 z) = 1 then mixLane lane113z2 z.z2 w else z.z2,
        if mixSel 4 (out113 z) = 2 then mixLane lane113z3 z.z3 w else z.z3,
        if mixSel 4 (out113 z) = 3 then mixLane lane113z4 z.z4 w else z.z4⟩ := by
  have hj : mixSel 4 (out113 z) < 4 := mixSel_lt (by decide) _
  unfold mix1Lfsr113
  generalize mixSel 4 (out113 z) = j at hj ⊢
  interval_cases j <;> rfl

/-- Each lane of LFSR88 after a mix: only the lane that the output selects takes the limb (rule R155). -/
theorem mix1Lfsr88_eq (z : Lfsr88) (w : Word) :
    mix1Lfsr88 z w =
      ⟨if mixSel 3 (out88 z) = 0 then mixLane lane88z1 z.z1 w else z.z1,
        if mixSel 3 (out88 z) = 1 then mixLane lane88z2 z.z2 w else z.z2,
        if mixSel 3 (out88 z) = 2 then mixLane lane88z3 z.z3 w else z.z3⟩ := by
  have hj : mixSel 3 (out88 z) < 3 := mixSel_lt (by decide) _
  unfold mix1Lfsr88
  generalize mixSel 3 (out88 z) = j at hj ⊢
  interval_cases j <;> rfl

/-- A mix of a seeded unit, the unit's one-limb mixer known by another name. -/
theorem exec_mixOf_of_seeded_of_eq {s : State} {u : UnitId} {f g : UnitState u → Word → UnitState u}
    (hf : mixUnit s.mwcComb u = some f) (hfg : ∀ v w, f v w = g v w) (hs : s.isSeeded u = true) :
    exec (mixOf u) s =
      .next { setUnit u ((s.sq.filterMap limbOf).foldl g (s.unit u)) s with sq := [] } := by
  obtain rfl : f = g := funext₂ hfg
  exact exec_mixOf_of_seeded hf hs

/-- Settles O43: each unit's mixer is the one-lane change that the statement writes out. -/
theorem mixLfsr : Obligations.MixLfsr := by
  refine fun s => ⟨exec_mixOf_of_seeded_of_eq (u := .lfsr113) rfl mix1Lfsr113_eq,
    exec_mixOf_of_seeded_of_eq (u := .lfsr88) rfl mix1Lfsr88_eq, fun u hu hs => ?_⟩
  fin_cases hu
  exacts [exec_mixOf_of_unseeded (u := .lfsr113) rfl hs, exec_mixOf_of_unseeded (u := .lfsr88) rfl hs]

/-! ### Jumping ahead -/

theorem map113_congr {f g : Lane → Word → Word} (h : ∀ p ∈ lanes, ∀ z, f p z = g p z) (z : Lfsr113) :
    map113 f z = map113 g z := by
  rw [map113, h lane113z1 (by decide), h lane113z2 (by decide), h lane113z3 (by decide), h lane113z4 (by decide),
    ← map113]

theorem map88_congr {f g : Lane → Word → Word} (h : ∀ p ∈ lanes, ∀ z, f p z = g p z) (z : Lfsr88) :
    map88 f z = map88 g z := by
  rw [map88, h lane88z1 (by decide), h lane88z2 (by decide), h lane88z3 (by decide), ← map88]

/-- Settles O49: a power of a lane's matrix is so many steps of the lane. -/
theorem jumpLfsrSteps : Obligations.JumpLfsrSteps := by
  intro s
  rw [← jumpDistance_eq]
  have hjump : ∀ p ∈ lanes, ∀ z, laneJump p z (jumpDistance s) =
      (laneStep p)^[(jumpDistance s % laneCycle p).toNat] z :=
    fun p hp z => laneJump_eq_iterate hp z _
  exact ⟨fun hs => exec_jumpOf_of_seeded (u := .lfsr113) rfl hs (map113_congr hjump s.lfsr113),
    fun hs => exec_jumpOf_of_seeded (u := .lfsr88) rfl hs (map88_congr hjump s.lfsr88),
    exec_jumpOf_of_unseeded (u := .lfsr113) rfl, exec_jumpOf_of_unseeded (u := .lfsr88) rfl⟩

end Sys2Proof.Machine
end

section
/-! PROOFS. The seed queue: a push appends all its entries or none, a wide seed splits into one limb or two, the
seed fields read the queue as the loop of rule R163 does, and the mix selector by its table (rules R157 to R163,
R168). -/

namespace Sys2Proof.Machine

/-! ### Pushing entries -/

section
variable {s : State} {l : List SqEntry} {i : Instr}

theorem pushEntries_of_fits (h : s.sq.length + l.length ≤ 512) :
    pushEntries l i s = .next { s with sq := s.sq ++ l } :=
  if_neg (Nat.not_lt.mpr h)

theorem pushEntries_of_full (h : 512 < s.sq.length + l.length) :
    pushEntries l i s = .next (raiseFault .sqFull (encode i) s) :=
  if_pos h

end

/-- Settles O17: SQPUSH and SQPUSHA are pushes of one entry. -/
theorem queuePush : Obligations.QueuePush :=
  fun _ => ⟨rfl, fun hfit => ⟨pushEntries_of_fits hfit, pushEntries_of_fits hfit⟩,
    fun hfull => ⟨pushEntries_of_full hfull, pushEntries_of_full hfull⟩⟩

/-! ### The limbs of a wide seed -/

section
variable (hi lo : Word)

/-- The integer `s64(hi, lo)` by its words, the high one signed (rule R8). -/
theorem toInt_append_word : (hi ++ lo).toInt = 2 ^ 32 * hi.toInt + lo.toNat :=
  BitVec.toInt_append

/-- The low 32 bits of `s64(hi, lo)`, the first limb of rule R157. -/
theorem ofInt_toInt_append : BitVec.ofInt 32 (hi ++ lo).toInt = lo := by
  have hmod : (hi ++ lo).toInt % 2 ^ 32 = lo.toNat := by
    rw [toInt_append_word]
    omega
  apply BitVec.eq_of_toNat_eq
  rw [BitVec.toNat_ofInt]
  exact congrArg Int.toNat hmod

/-- The arithmetic shift of `s64(hi, lo)` by 32 leaves the high word (rule R157). -/
theorem toInt_append_div : (hi ++ lo).toInt / 2 ^ 32 = hi.toInt := by
  rw [toInt_append_word]
  omega

end

/-- The splitting stops at 0 and at -1, the words of equal bits (rule R157). -/
theorem toInt_eq_zero_or_neg_one_iff {w : Word} :
    w.toInt = 0 ∨ w.toInt = -1 ↔ w = 0 ∨ w = 0xFFFFFFFF :=
  or_congr (BitVec.toInt_inj (y := 0)) (BitVec.toInt_inj (y := 0xFFFFFFFF))

/-- A signed 64-bit value is one limb where its high word only extends a sign, else two (rule R161). -/
theorem limbs_toInt_append (hi lo : Word) :
    limbs (hi ++ lo).toInt = if hi = 0 ∨ hi = 0xFFFFFFFF then [lo] else [lo, hi] := by
  have hsecond : limbsUpTo 1 hi.toInt = [hi] := by
    simp only [limbsUpTo, BitVec.ofInt_toInt, ite_self]
  rw [limbs_eq, limbsUpTo]
  simp only [toInt_append_div, ofInt_toInt_append, toInt_eq_zero_or_neg_one_iff, hsecond]
  split <;> rfl

theorem exec_sqpushw (s : State) :
    exec .sqpushw s =
      pushEntries (if s.arg1 = 0 ∨ s.arg1 = 0xFFFFFFFF then [.limb s.arg0] else [.limb s.arg0, .limb s.arg1])
        .sqpushw s := by
  have hlimbs : (limbs (wideSeed s)).map SqEntry.limb =
      if s.arg1 = 0 ∨ s.arg1 = 0xFFFFFFFF then [.limb s.arg0] else [.limb s.arg0, .limb s.arg1] := by
    rw [wideSeed_eq, limbs_toInt_append, apply_ite (List.map SqEntry.limb)]
    rfl
  exact congrArg (pushEntries · .sqpushw s) hlimbs

/-! ### The words of the exchange buffer -/

theorem length_xbWords {s : State} (h : s.xlen ≤ 257) : (xbWords s).length = s.xlen :=
  List.length_take_of_le (h.trans_eq s.xb.length_toList.symm)

/-- Settles O18: both are pushes, of the limbs of the wide seed and of the valid words of the buffer. -/
theorem wideAndExchangePush : Obligations.WideAndExchangePush := by
  refine fun s => ⟨?_, fun hx => ?_⟩
  · rintro l rfl
    rw [exec_sqpushw]
    exact ⟨pushEntries_of_fits, pushEntries_of_full⟩
  · have hlen : ((xbWords s).map SqEntry.limb).length = s.xlen := by
      rw [List.length_map, length_xbWords hx]
    exact ⟨fun hfit => pushEntries_of_fits (by rwa [hlen]), fun hfull => pushEntries_of_full (by rwa [hlen])⟩

/-! ### The seed fields -/

theorem seedField_eq_entryOr (q : List SqEntry) (j : Nat) (d : Word) :
    seedField q j d = entryOr d (seedEntry q j) := by
  unfold seedField
  cases seedEntry q j <;> rfl

/-- The loop of rule R163 in the middle of its run: `last` is the last entry seen, `q` what is left of the
queue. -/
theorem seedValsLoop_eq_mapIdx (q : List SqEntry) (last : SqEntry) (ds : List Word) :
    seedValsLoop q last ds = ds.mapIdx fun j d => entryOr d (q[j]?.getD (q.getLast?.getD last)) := by
  induction ds generalizing q last with
  | nil => cases q <;> rfl
  | cons d ds ih =>
    cases q with
    | nil => simp only [seedValsLoop, ih, List.mapIdx_cons]; rfl
    | cons e q =>
      simp only [seedValsLoop, ih, List.mapIdx_cons, List.getElem?_cons_succ, List.getLast?_cons]
      rfl

/-- Settles O19: the loop from its start, where no entry has been seen. -/
theorem seedFieldsAreSeedVals : Obligations.SeedFieldsAreSeedVals := by
  intro q ds
  simp only [seedField_eq_entryOr]
  exact seedValsLoop_eq_mapIdx q .absent ds

/-! ### The mix selector -/

/-- Settles O20: the product with 2 or 4 shifted right by 32 is a shift by 31 or 30, and for 3 the thresholds
are the thirds of 2^32. -/
theorem mixSelectorTable : Obligations.MixSelectorTable := by
  intro c
  have hc : c.toNat < 2 ^ 32 := c.isLt
  simp only [mixSel_eq, BitVec.extractLsb'_toNat, Nat.shiftRight_eq_div_pow]
  refine ⟨by omega, by omega, ?_, by omega⟩
  split_ifs <;> omega

end Sys2Proof.Machine
end

section
/-! PROOFS. The generator commands of the composites KISS and KISS2 (rules R170 to R187): each constituent is
stepped, seeded and jumped by its own function, and a mixed limb goes into the one constituent that the
composite's output selects. -/

namespace Sys2Proof.Machine

/-! ### Mixing -/

/-- MIXSEL(3, c) chooses one of the three constituents (rule R168). -/
theorem mixSel_three_cases (c : Word) : mixSel 3 c = 0 ∨ mixSel 3 c = 1 ∨ mixSel 3 c = 2 := by
  have hlt : mixSel 3 c < 3 := mixSel_lt (by decide) c
  omega

/-- Each constituent of KISS after a mix: only the one that the output selects takes the limb (rule R179). -/
theorem mix1Kiss_eq (k : Kiss) (w : Word) :
    mix1Kiss k w =
      ⟨if mixSel 3 (outKiss k) = 0 then mix1Mwc false k.mwc w else k.mwc,
        if mixSel 3 (outKiss k) = 1 then mix1Cong k.cong w else k.cong,
        if mixSel 3 (outKiss k) = 2 then mix1Shr3 k.shr3 w else k.shr3⟩ := by
  rcases mixSel_three_cases (outKiss k) with hj | hj | hj <;> simp [mix1Kiss, hj]

/-- Each constituent of KISS2 after a mix: only the one that the output selects takes the limb (rule R187). -/
theorem mix1Kiss2_eq (k : Kiss2) (w : Word) :
    mix1Kiss2 k w =
      ⟨if mixSel 3 (outKiss2 k) = 0 then mix1Mwc64 k.mwc64 w else k.mwc64,
        if mixSel 3 (outKiss2 k) = 1 then mix1Cong k.cong w else k.cong,
        if mixSel 3 (outKiss2 k) = 2 then mix1Shr3 k.shr3 w else k.shr3⟩ := by
  rcases mixSel_three_cases (outKiss2 k) with hj | hj | hj <;> simp [mix1Kiss2, hj]

/-- Settles O44: each composite's mixer is the one-constituent change that the statement writes out. -/
theorem mixKissUnits : Obligations.MixKissUnits := by
  refine fun s => ⟨exec_mixOf_of_seeded_of_eq (u := .kiss) rfl mix1Kiss_eq,
    exec_mixOf_of_seeded_of_eq (u := .kiss2) rfl mix1Kiss2_eq, fun u hu hs => ?_⟩
  fin_cases hu
  exacts [exec_mixOf_of_unseeded (u := .kiss) rfl hs, exec_mixOf_of_unseeded (u := .kiss2) rfl hs]

/-! ### Jumping ahead -/

/-- Each constituent of KISS jumps by `n` modulo its own cycle length (rule R178). -/
theorem jumpKiss_eq (k : Kiss) (n : Int) :
    jumpKiss k n =
      ⟨⟨BitVec.ofNat 32 (mwcuMult ^ (n % mwcuCycle).toNat * k.mwc.upper.toNat % mwcuMod),
          BitVec.ofNat 32 (mwclMult ^ (n % mwclCycle).toNat * k.mwc.lower.toNat % mwclMod)⟩,
        stepCong^[(n % congCycle).toNat] k.cong, stepShr3^[(n % shr3Cycle).toNat] k.shr3⟩ := by
  rw [jumpKiss, jumpMwc_eq, jumpCong_eq_iterate, jumpShr3_eq_iterate]

/-- Each constituent of KISS2 jumps by `n` modulo its own cycle length (rule R186). -/
theorem jumpKiss2_eq (k : Kiss2) (n : Int) :
    jumpKiss2 k n =
      ⟨BitVec.ofNat 64 (mwc64Mult ^ (n % mwc64Cycle).toNat * k.mwc64.toNat % mwc64Mod),
        stepCong^[(n % congCycle).toNat] k.cong, stepShr3^[(n % shr3Cycle).toNat] k.shr3⟩ := by
  rw [jumpKiss2, jumpMwc64_eq, jumpCong_eq_iterate, jumpShr3_eq_iterate]

/-- Settles O50: the jumps of the constituents, the distance written as `s64(ARG1, ARG0)`. -/
theorem jumpKissUnits : Obligations.JumpKissUnits := by
  intro s
  rw [← jumpDistance_eq]
  exact ⟨fun hs => exec_jumpOf_of_seeded (u := .kiss) rfl hs (jumpKiss_eq s.kiss _),
    fun hs => exec_jumpOf_of_seeded (u := .kiss2) rfl hs (jumpKiss2_eq s.kiss2 _),
    exec_jumpOf_of_unseeded (u := .kiss) rfl, exec_jumpOf_of_unseeded (u := .kiss2) rfl⟩

/-! ### Advancing and seeding -/

/-- Settles O31: the advance of each unit and the output of the stepped constituents. -/
theorem advanceKiss : Obligations.AdvanceKiss := by
  refine fun s => ⟨exec_advOf_of_seeded (u := .kiss), fun hs => ?_, fun u _ => exec_advOf_of_unseeded⟩
  simp only [← outMwc64_eq]
  exact exec_advOf_of_seeded (u := .kiss2) hs

/-- Settles O40: the seed fields are those of `seedUnit`, and X chooses whether the extras are folded in. -/
theorem seedKissUnits : Obligations.SeedKissUnits := by
  intro s x ones extras
  simp only [extras, ← seedWith_eq_foldl]
  exact ⟨exec_seedOf .kiss s x, exec_seedOf .kiss2 s x⟩

end Sys2Proof.Machine
end

section
/-! PROOFS. The lagged-Fibonacci units LFIB4 and SWB (rules R188 to R205): the advance with its offsets counted
from the new cursor, the seeding from the bootstrap or from 256 limbs, the commands that are never supported,
and the ring as it is seen from its cursor, which alone decides every later output. -/

namespace Sys2Proof.Machine

/-! ### The unsupported commands -/

/-- Settles O16: the ring units have neither a jump nor a one-limb mixer. -/
theorem ringUnsupported : Obligations.RingUnsupported :=
  fun s => ⟨exec_jumpOf .lfib4 s, exec_mixOf .lfib4 s, exec_jumpOf .swb s, exec_mixOf .swb s⟩

/-! ### Advancing -/

/-- The cursor moves by one modulo 256, and an offset from it wraps the same way (rules R188, R191). -/
theorem cursor_succ_add (c d : Fin Config.ring) : c + 1 + d = Fin.ofNat 256 (c.val + 1 + d.val) := by
  refine Fin.ext ?_
  rw [Fin.val_add, Fin.val_add, Nat.mod_add_mod]
  rfl

theorem cursor_succ (c : Fin Config.ring) : c + 1 = Fin.ofNat 256 (c.val + 1) :=
  Fin.ext (Fin.val_add c 1)

/-- LFIB4's advance with the cursor and the offsets as numbers modulo 256 (rule R191). -/
theorem stepLfib4_eq (l : Lfib4) :
    let at' := fun d : Nat => l.buf.get (Fin.ofNat 256 (l.cursor.val + 1 + d))
    let c := Fin.ofNat 256 (l.cursor.val + 1)
    stepLfib4 l = ⟨l.buf.set c (at' 0 + at' 58 + at' 119 + at' 178), c⟩ := by
  simp only [stepLfib4, cursor_succ_add]
  rw [cursor_succ]
  rfl

/-- SWB's advance with the cursor and the offsets as numbers modulo 256 (rule R199). -/
theorem stepSwb_eq (b : Swb) :
    let at' := fun d : Nat => b.buf.get (Fin.ofNat 256 (b.cursor.val + 1 + d))
    let x : Word := at' 34
    let y : Word := at' 19 + (if b.borrow then 1 else 0)
    let c := Fin.ofNat 256 (b.cursor.val + 1)
    stepSwb b = ⟨b.buf.set c (x - y), c, decide (x.toNat < y.toNat)⟩ := by
  simp only [stepSwb, cursor_succ_add]
  rw [cursor_succ]
  rfl

/-- ADV of a seeded unit, the unit's new fields and its output known by other names. -/
theorem exec_advOf_of_seeded_of_eq {s : State} {u : UnitId} {v : UnitState u} {w : Word}
    (hs : s.isSeeded u = true) (hv : stepUnit u (s.unit u) = v) (hw : outUnit s.mwcComb u v = w) :
    exec (advOf u) s = .next { setUnit u v s with res := w } := by
  subst hv hw
  exact exec_advOf_of_seeded hs

/-- Settles O32: the output is the word just written at the new cursor. -/
theorem advanceRings : Obligations.AdvanceRings :=
  fun s => ⟨fun hs => exec_advOf_of_seeded_of_eq (u := .lfib4) hs (stepLfib4_eq s.lfib4) (Table.get_set_self _ _ _),
    fun hs => exec_advOf_of_seeded_of_eq (u := .swb) hs (stepSwb_eq s.swb) (Table.get_set_self _ _ _),
    fun _ _ => exec_advOf_of_unseeded⟩

/-! ### Seeding -/

theorem seedRing_nil : seedRing [] = some boot :=
  if_pos rfl

theorem seedRing_of_ne_nil {q : List SqEntry} (hq : q ≠ []) : seedRing q = stateVals Config.ring q :=
  if_neg hq

/-- A queue of exactly 256 limbs is the ring (rule R190). -/
theorem seedRing_limbs (v : Table Word Config.ring) : seedRing (v.toList.map .limb) = some v := by
  have hne : v.toList.map SqEntry.limb ≠ [] := by
    refine List.ne_nil_of_length_pos ?_
    rw [List.length_map, v.length_toList]
    decide
  rw [seedRing_of_ne_nil hne, stateVals_eq_some]

theorem seedRing_eq_none {q : List SqEntry} (hne : q ≠ [])
    (hq : ¬ ∃ l : List Word, l.length = 256 ∧ q = l.map .limb) : seedRing q = none := by
  rw [seedRing_of_ne_nil hne, Option.eq_none_iff_forall_ne_some]
  exact fun v hv => hq ⟨v.toList, v.length_toList, stateVals_eq_some.mp hv⟩

section
variable {s : State}

/-- SEED that loads the fields `v`. -/
theorem exec_seedOf_of_inr {x : Bool} {u : UnitId} {v : UnitState u} (h : seedUnit x s.mwcComb s.sq u = .inr v) :
    exec (seedOf x u) s = .next (setUnit u v (markSeeded u s)) := by
  rw [exec_seedOf, h]
  rfl

/-- SEED that faults. -/
theorem exec_seedOf_of_inl {x : Bool} {u : UnitId} {c : Cause} (h : seedUnit x s.mwcComb s.sq u = .inl c) :
    exec (seedOf x u) s = .next (raiseFault c (encode (seedOf x u)) s) := by
  rw [exec_seedOf, h]
  rfl

/-- SEED without X of both ring units, from a queue that gives a ring. -/
theorem exec_seedRings_of_some {b : Table Word Config.ring} (hb : seedRing s.sq = some b) :
    exec (.seedLfib4 false) s = .next { s with seeded := s.seeded.set 8 true, sq := [], lfib4 := ⟨b, 0⟩ } ∧
    exec (.seedSwb false) s =
      .next { s with seeded := s.seeded.set 9 true, sq := [], swb := ⟨b, 0, false⟩ } := by
  have hload : seedRingOr false s.sq = .inr b := congrArg (Option.elim · _ _) hb
  exact ⟨exec_seedOf_of_inr (u := .lfib4) (congrArg (Sum.map id _) hload),
    exec_seedOf_of_inr (u := .swb) (congrArg (Sum.map id _) hload)⟩

/-- SEED without X of both ring units, from a queue that gives none. -/
theorem exec_seedRings_of_none (hn : seedRing s.sq = none) :
    exec (.seedLfib4 false) s = .next (raiseFault .seedLen 0x00000820 s) ∧
    exec (.seedSwb false) s = .next (raiseFault .seedLen 0x00000920 s) := by
  have hload : seedRingOr false s.sq = .inl .seedLen := congrArg (Option.elim · _ _) hn
  exact ⟨exec_seedOf_of_inl (u := .lfib4) (congrArg (Sum.map id _) hload),
    exec_seedOf_of_inl (u := .swb) (congrArg (Sum.map id _) hload)⟩

end

/-! ### The bootstrap words -/

theorem getElem_kissOutputs (n i : Nat) (k : Kiss) (h : i < (kissOutputs n k).length) :
    (kissOutputs n k)[i] = outKiss (stepKiss^[i + 1] k) := by
  induction n generalizing i k with
  | zero => exact absurd h (Nat.not_lt_zero i)
  | succ n ih =>
    cases i with
    | zero => rfl
    | succ i => exact ih i (stepKiss k) (Nat.lt_of_succ_lt_succ h)

/-- The bootstrap by the steps of its KISS (rule R189). -/
theorem boot_get {i : Fin Config.ring} {n : Nat} (hn : i.val + 1 = n) :
    boot.get i = outKiss (stepKiss^[n] bootSeed) := by
  subst hn
  exact getElem_kissOutputs Config.ring i.val bootSeed _

theorem iterate_stepKiss (n : Nat) (k : Kiss) :
    stepKiss^[n] k =
      ⟨⟨stepU^[n] k.mwc.upper, stepL^[n] k.mwc.lower⟩, stepCong^[n] k.cong, stepShr3^[n] k.shr3⟩ := by
  induction n with
  | zero => rfl
  | succ n ih =>
    simp only [Function.iterate_succ_apply', ih]
    rfl

/-- `f` applied 2^k times, for evaluation by `decide`: the calls nest only `k` deep, and the match makes each
inner call a numeral before the outer one begins. -/
def iterateTwoPow (f : Word → Word) : Nat → Word → Word
  | 0, w => f w
  | k + 1, w =>
    match (iterateTwoPow f k w).toNat with
    | 0 => iterateTwoPow f k 0
    | n + 1 => iterateTwoPow f k (BitVec.ofNat 32 (n + 1))

theorem iterateTwoPow_succ (f : Word → Word) (k : Nat) (w : Word) :
    iterateTwoPow f (k + 1) w = iterateTwoPow f k (iterateTwoPow f k w) := by
  have hword : BitVec.ofNat 32 (iterateTwoPow f k w).toNat = iterateTwoPow f k w := by
    rw [BitVec.ofNat_toNat, BitVec.setWidth_eq]
  rw [iterateTwoPow]
  split
  · next h => rw [← hword, h]; rfl
  · next n h => rw [← hword, h]

theorem iterateTwoPow_eq (f : Word → Word) (k : Nat) : iterateTwoPow f k = f^[2 ^ k] := by
  induction k with
  | zero => rfl
  | succ k ih =>
    funext w
    rw [iterateTwoPow_succ, ih, pow_succ, Nat.mul_two, Function.iterate_add_apply]

theorem bootSeed_fields : bootSeed = ⟨⟨12345, 65435⟩, 12345, 34221⟩ := by
  decide

/-- The last bootstrap word is the output after 2^8 steps of each lane. -/
theorem boot_get_last : boot.get 255 = 0x7BF5D016 := by
  have hsteps : boot.get 255 = outKiss (stepKiss^[2 ^ 8] bootSeed) := boot_get (by decide)
  rw [hsteps, iterate_stepKiss, bootSeed_fields]
  simp only [← iterateTwoPow_eq]
  decide

/-- The bootstrap words that rule R189 names. -/
theorem boot_words :
    boot.get 0 = 0x35588294 ∧ boot.get 1 = 0xA6CDF03A ∧ boot.get 2 = 0x06B78BF0 ∧
    boot.get 3 = 0x4FE86D46 ∧ boot.get 255 = 0x7BF5D016 :=
  ⟨by decide, by decide, by decide, by decide, boot_get_last⟩

/-! ### The seeding commands -/

/-- Settles O41: the three kinds of queue by what `seedRing` makes of them; X faults before the queue is read. -/
theorem seedRings : Obligations.SeedRings := by
  refine fun s => ⟨fun hq => exec_seedRings_of_some ?_, fun v hq => exec_seedRings_of_some ?_,
    fun hne hq => exec_seedRings_of_none (seedRing_eq_none hne hq), exec_seedOf .lfib4 s true,
    exec_seedOf .swb s true, boot_words⟩
  · rw [hq, seedRing_nil]
  · rw [hq]
    exact seedRing_limbs v

/-! ### The ring seen from its cursor -/

/-- The words of a ring by their distance from the cursor (rules R36, R193). -/
def ringView (buf : Table Word Config.ring) (cursor : Fin Config.ring) : Fin Config.ring → Word :=
  fun i => buf.get (cursor + i)

/-- The view after the cursor has moved by one and the word `w` stands under it. -/
def shiftView (w : Word) (view : Fin Config.ring → Word) : Fin Config.ring → Word :=
  fun i => if i = 0 then w else view (1 + i)

theorem ringView_zero (buf : Table Word Config.ring) (cursor : Fin Config.ring) :
    ringView buf cursor 0 = buf.get cursor :=
  congrArg buf.get (add_zero cursor)

theorem ringView_set_succ (buf : Table Word Config.ring) (c : Fin Config.ring) (w : Word) :
    ringView (buf.set (c + 1) w) (c + 1) = shiftView w (ringView buf c) := by
  funext i
  rw [ringView, Table.get_set, shiftView, ringView, ← add_assoc]
  exact if_congr (left_eq_add) rfl rfl

/-- LFIB4's advance on the view. -/
def stepViewLfib4 (view : Fin Config.ring → Word) : Fin Config.ring → Word :=
  shiftView (view 1 + view (1 + 58) + view (1 + 119) + view (1 + 178)) view

/-- SWB's advance on the view and the borrow. -/
def stepViewSwb (p : (Fin Config.ring → Word) × Bool) : (Fin Config.ring → Word) × Bool :=
  let x := p.1 (1 + 34)
  let y := p.1 (1 + 19) + bitWord p.2
  (shiftView (swbDiff x y) p.1, swbBorrow x y)

/-- LFIB4 by its view: where in the buffer the cursor stands is forgotten. -/
def viewLfib4 (l : Lfib4) : Fin Config.ring → Word :=
  ringView l.buf l.cursor

/-- SWB by its view and borrow. -/
def viewSwb (b : Swb) : (Fin Config.ring → Word) × Bool :=
  (ringView b.buf b.cursor, b.borrow)

theorem viewLfib4_semiconj : Function.Semiconj viewLfib4 stepLfib4 stepViewLfib4 := by
  intro l
  rw [viewLfib4, stepLfib4, ringView_set_succ]
  simp only [stepViewLfib4, viewLfib4, ringView, add_assoc]

theorem viewSwb_semiconj : Function.Semiconj viewSwb stepSwb stepViewSwb := by
  intro b
  rw [viewSwb, stepSwb, ringView_set_succ]
  simp only [stepViewSwb, viewSwb, ringView, add_assoc]

theorem outLfib4_eq_view (l : Lfib4) : outLfib4 l = viewLfib4 l 0 :=
  (ringView_zero l.buf l.cursor).symm

theorem outSwb_eq_view (b : Swb) : outSwb b = (viewSwb b).1 0 :=
  (ringView_zero b.buf b.cursor).symm

/-- A buffer rotated to cursor 0 has the same view. -/
theorem ringView_of_rotated {buf buf' : Table Word Config.ring} {c c' : Fin Config.ring} (hc : c' = 0)
    (h : ∀ i, buf'.get i = buf.get (c + i)) : ringView buf' c' = ringView buf c := by
  funext i
  rw [ringView, hc, zero_add]
  exact h i

/-- Settles O59: the two rings have one view, and the view alone decides the outputs. -/
theorem rotatedRingContinues : Obligations.RotatedRingContinues := by
  refine ⟨fun l r hc hbuf k => ?_, fun l r hc hb hbuf k => ?_⟩
  · have hview : viewLfib4 r = viewLfib4 l := ringView_of_rotated hc hbuf
    have hstep := viewLfib4_semiconj.iterate_right k
    rw [outLfib4_eq_view, outLfib4_eq_view, hstep, hstep, hview]
  · have hview : viewSwb r = viewSwb l := congrArg₂ Prod.mk (ringView_of_rotated hc hbuf) hb
    have hstep := viewSwb_semiconj.iterate_right k
    rw [outSwb_eq_view, outSwb_eq_view, hstep, hstep, hview]

end Sys2Proof.Machine
end

section
/-! PROOFS. Faults (rules R53, R214, R215): fault entry by whether a record stands, the commands that change the
record, and the host port while a fault is recorded. -/

namespace Sys2Proof.Machine

/-! ### Fault entry -/

/-- A record that stands is kept (rule R214). -/
theorem raiseFault_of_ne_none (c : Cause) (w : Word) {s : State} (h : s.fault ≠ none) : raiseFault c w s = s := by
  obtain ⟨r, hr⟩ := Option.ne_none_iff_exists'.mp h
  exact raiseFault_of_some c w hr

/-- Fault entry that changed the record found none standing. -/
theorem fault_eq_none_of_raiseFault {c : Cause} {w : Word} {s : State}
    (hne : (raiseFault c w s).fault ≠ s.fault) : s.fault = none := by
  by_contra hf
  exact hne (congrArg State.fault (raiseFault_of_ne_none c w hf))

/-- Beside CLRF and RST only a command's own fault writes the record (rules R13, R214). -/
theorem fault_writers {s t : State} {i : Instr} (h : Effect s i t) (hne : t.fault ≠ s.fault) (hclrf : i ≠ .clrf)
    (hrst : i ≠ .rst) : ∃ c : Cause, c ≠ .bus ∧ c ≠ .illegal ∧ t = raiseFault c (encode i) s := by
  cases h with
  | fault _ c hbus hillegal => exact ⟨c, hbus, hillegal, rfl⟩
  | clrf => exact absurd rfl hclrf
  | rst => exact absurd rfl hrst
  | _ => simp at hne

/-- Settles O14: a command that changed the record ended in fault entry, and on a state without a record. -/
theorem faultsArePrecise : Obligations.FaultsArePrecise := by
  refine ⟨fun c w s => ⟨raiseFault_of_none c w, raiseFault_of_ne_none c w⟩, fun i s t h hne hclrf hrst => ?_⟩
  obtain ⟨c, hbus, hillegal, rfl⟩ := fault_writers (exec_effect h) hne hclrf hrst
  have hnone : s.fault = none := fault_eq_none_of_raiseFault hne
  exact ⟨hnone, c, hbus, hillegal, raiseFault_of_none c (encode i) hnone⟩

/-! ### The host port while a fault is recorded -/

/-- Settles O11, bullet by bullet: the drop at CMD by `dropped_iff`, and a bus fault finds a record standing. -/
theorem blockedWhileFaulted : Obligations.BlockedWhileFaulted := by
  intro s r hr
  have hne : s.fault ≠ none := Option.ne_none_iff_exists'.mpr ⟨r, hr⟩
  have hbus (isWrite : Bool) (a : BitVec 10) : busFault isWrite a s = s := raiseFault_of_ne_none _ _ hne
  refine ⟨fun w hclrf hrst => writeCmd_of_dropped (dropped_iff.mpr ⟨hne, hclrf, hrst⟩),
    hostWrite_cmd_of_decode (.inr (.inl rfl)) rfl, hostWrite_cmd_of_decode (.inr (.inr rfl)) rfl,
    fun a v => hostRead_of_mapped, fun v => ⟨rfl, rfl, rfl, rfl⟩, fun a ha => ?_, fun a v h0 h3 h4 h5 h6 => ?_⟩
  · rw [hostRead_of_unmapped ha, hbus]
  · rw [hostWrite_of_not_writable v s h0 h3 h4 h5 h6, hbus]

end Sys2Proof.Machine
end

section
/-! PROOFS. Every step completes and takes one event (rules R209, R232). -/

namespace Sys2Proof.Machine

/-! ### The host's pending events -/

section
variable {s t : State}

/-- No command touches the host's pending events: RST resets the engine and leaves the host's side. -/
theorem inbox_of_exec {i : Instr} (h : exec i s = .next t) : t.inbox = s.inbox := by
  by_cases hrst : i = .rst
  · subst hrst
    cases h
    rfl
  · exact (host_unchanged (exec_effect h) hrst).1

theorem inbox_of_writeCmd {w : Word} (h : writeCmd w s = .next t) : t.inbox = s.inbox := by
  obtain ⟨-, rfl⟩ | ⟨-, -, rfl⟩ | ⟨-, i, -, hi⟩ := writeCmd_next h
  · rfl
  · rfl
  · exact inbox_of_exec hi

theorem inbox_of_hostRead {a : BitVec 10} (h : hostRead a s = .next t) : t.inbox = s.inbox := by
  obtain ⟨v, -, rfl⟩ | ⟨-, rfl⟩ := hostRead_next h
  · rfl
  · rfl

theorem inbox_of_hostWrite {a : BitVec 10} {v : Word} (h : hostWrite a v s = .next t) : t.inbox = s.inbox := by
  obtain ⟨-, hcmd⟩ | ⟨-, rfl⟩ | ⟨-, rfl⟩ | ⟨-, rfl⟩ | ⟨-, rfl⟩ | rfl := hostWrite_next h
  · exact inbox_of_writeCmd hcmd
  all_goals rfl

/-- An event that is performed adds no event and takes none. -/
theorem inbox_of_hostEvent {e : HostEvent} (h : hostEvent e s = .next t) : t.inbox = s.inbox := by
  cases e with
  | reset => cases h; rfl
  | read a => exact inbox_of_hostRead h
  | write a v => exact inbox_of_hostWrite h

/-- A step takes the first event of the inbox, and none from an empty one. -/
theorem inbox_of_step (h : step s = .next t) : t.inbox = s.inbox.tail := by
  obtain ⟨hnil, rfl⟩ | ⟨e, rest, hcons, he⟩ := step_next h
  · rw [hnil, List.tail_nil]
  · rw [inbox_of_hostEvent he, hcons, List.tail_cons]

end

/-! ### Steps complete -/

/-- Every step completes: of a state beside itself `sameOutcome_step` says that both runs have a next state. -/
theorem completes_step (s : State) : Completes (step s) := by
  obtain ⟨t, -, ht, -, -⟩ := sameOutcome_step (sameSeen_refl s)
  exact ⟨t, ht⟩

/-- Settles O15: commands and steps complete, and `inbox_of_step` names the events that remain. -/
theorem everyStepCompletes : Obligations.EveryStepCompletes := by
  refine ⟨completes_exec, fun s => ?_⟩
  obtain ⟨t, ht⟩ := completes_step s
  exact ⟨t, ht, inbox_of_step ht⟩

end Sys2Proof.Machine
end

section
/-! PROOFS. The round trip of a state tuple through the exchange buffer and the seed queue (rules R162, R193,
R201, R228): what SETST makes of the tuple that GETST gave is the unit's fields, a ring turned so that its
cursor is 0. -/

namespace Sys2Proof.Machine

/-! ### The exchange buffer and the queue -/

/-- The words put into the exchange buffer are its valid words. -/
theorem xbWords_putXb {l : List Word} (s : State) (hl : l.length ≤ Config.xbLen) : xbWords (putXb l s) = l := by
  have hwords : xbWords (putXb l s) = (List.range l.length).map fun i => l.getD i 0 := take_tab _ hl
  rw [hwords]
  refine List.ext_getElem (by simp) fun i _ hi => ?_
  simp [List.getElem?_eq_getElem hi]

/-- SQPUSHX on an empty queue: the queue holds just the valid words of the buffer (rule R162). -/
theorem exec_sqpushx_of_sq_nil {s : State} (hq : s.sq = []) (hfit : (xbWords s).length ≤ 512) :
    exec .sqpushx s = .next { s with sq := (xbWords s).map .limb } := by
  have hpush : exec .sqpushx s = .next { s with sq := s.sq ++ (xbWords s).map .limb } :=
    pushEntries_of_fits (by rwa [hq, List.length_nil, List.length_map, Nat.zero_add])
  rw [hpush, hq, List.nil_append]

/-! ### The fields made of a tuple -/

/-- The high word and the low word of a 64-bit lane put together again (rule R31). -/
theorem u64_hiWord_loWord (v : DWord) : u64 (hiWord v) (loWord v) = v :=
  (BitVec.extractLsb'_append_extractLsb'_eq_extractLsb' rfl).trans BitVec.extractLsb'_eq_self

theorem getLsbD_bitWord (b : Bool) : (bitWord b).getLsbD 0 = b := by
  cases b <;> rfl

/-- A ring whose cursor is 0 is read from its first word (rule R193). -/
theorem rotated_zero (buf : Table Word Config.ring) : rotated buf 0 = buf.toList := by
  refine List.ext_getElem ((length_listFrom _ _ _).trans buf.length_toList.symm) fun i _ hi => ?_
  have hi : i < 256 := hi.trans_eq buf.length_toList
  have hindex : (0 : Fin Config.ring) + Fin.ofNat Config.ring (0 + i) = ⟨i, hi⟩ := by
    rw [zero_add, Nat.zero_add]
    exact Fin.ext (Nat.mod_eq_of_lt hi)
  exact (getElem_listFrom _ _ _ _ _).trans (congrArg buf.get hindex)

/-- The fields that the state tuple of `v` stands for. -/
def restoredUnit (u : UnitId) (v : UnitState u) : UnitState u :=
  untupleUnit u ⟨tupleUnit u v, length_tupleUnit u v⟩

/-- A ring turned so that its cursor is 0. -/
def rewound (buf : Table Word Config.ring) (cursor : Fin Config.ring) : Table Word Config.ring :=
  ⟨rotated buf cursor, length_listFrom _ _ _⟩

theorem restoredUnit_lfib4 (l : Lfib4) : restoredUnit .lfib4 l = ⟨rewound l.buf l.cursor, 0⟩ := rfl

theorem restoredUnit_swb (b : Swb) : restoredUnit .swb b = ⟨rewound b.buf b.cursor, 0, b.borrow⟩ := by
  rw [← getLsbD_bitWord b.borrow]
  exact swbOfTuple_append (rewound b.buf b.cursor) (bitWord b.borrow) _

/-- All units but the rings come back as they were (rule R228). -/
theorem restoredUnit_eq_self {u : UnitId} (hlfib4 : u ≠ .lfib4) (hswb : u ≠ .swb) (v : UnitState u) :
    restoredUnit u v = v := by
  cases u with
  | lfib4 => exact absurd rfl hlfib4
  | swb => exact absurd rfl hswb
  | mwc64 => exact u64_hiWord_loWord v
  | kiss2 => exact congrArg (Kiss2.mk · v.cong v.shr3) (u64_hiWord_loWord v.mwc64)
  | _ => rfl

/-- Every unit comes back with the same tuple (rule R228). -/
theorem tupleUnit_restoredUnit (u : UnitId) (v : UnitState u) :
    tupleUnit u (restoredUnit u v) = tupleUnit u v := by
  cases u with
  | lfib4 =>
    rw [restoredUnit_lfib4]
    exact rotated_zero (rewound v.buf v.cursor)
  | swb =>
    rw [restoredUnit_swb]
    exact congrArg (· ++ [bitWord v.borrow]) (rotated_zero (rewound v.buf v.cursor))
  | _ => rw [restoredUnit_eq_self (by decide) (by decide)]

/-- The ring units have no forbidden state, and the others come back as they were. -/
theorem validUnit_restoredUnit {u : UnitId} {v : UnitState u} (hv : validUnit u v) :
    validUnit u (restoredUnit u v) := by
  cases u with
  | lfib4 => trivial
  | swb => trivial
  | _ => rwa [restoredUnit_eq_self (by decide) (by decide)]

/-! ### The round trip -/

/-- SETST on the queue that holds the tuple of valid fields: the sanitization keeps what comes back. -/
theorem exec_setstOf_of_tuple {s : State} {u : UnitId} {v : UnitState u} (hv : validUnit u v)
    (hq : s.sq = (tupleUnit u v).map .limb) :
    exec (setstOf u) s = .next (setUnit u (restoredUnit u v) (markSeeded u s)) :=
  exec_setstOf_of_limbs hq (length_tupleUnit u v) (sanUnit_of_valid (validUnit_restoredUnit hv))

/-- Settles O58: the tuple passes through the exchange buffer and the queue unchanged, and the fields made of
it are valid, have the same tuple, and are the old ones where the unit is no ring. -/
theorem stateTupleRoundTrip : Obligations.StateTupleRoundTrip := by
  intro s u hsound hseeded
  have hvalid : validUnit u (s.unit u) := valid_of_sound hsound u hseeded
  have hfits : (tupleUnit u (s.unit u)).length ≤ Config.xbLen := length_tupleUnit u _ ▸ tupleLength_le u
  have hwords : xbWords (putXb (tupleUnit u (s.unit u)) s) = tupleUnit u (s.unit u) := xbWords_putXb s hfits
  refine ⟨_, _, _, _, exec_getstOf_of_seeded hseeded, rfl, exec_sqpushx_of_sq_nil rfl ?_,
    exec_setstOf_of_tuple hvalid (congrArg (List.map SqEntry.limb) hwords), ?_, fun hlfib4 hswb => ?_⟩
  · exact (congrArg List.length hwords).trans_le (hfits.trans (by decide))
  · rw [← tupleUnit_eq_stateTuple, unit_setUnit_self, tupleUnit_restoredUnit, tupleUnit_eq_stateTuple]
  · rw [sameUnit_iff, unit_setUnit_self, restoredUnit_eq_self hlfib4 hswb]

end Sys2Proof.Machine
end

section
/-! PROOFS. The system commands NOP, CLRF and RST (rules R206 to R208): what a write of each one's word to CMD
comes to, the state RST leaves, and the words with their operation codes. -/

namespace Sys2Proof.Machine

/-! ### The three commands -/

/-- Dropped or run, the word of NOP leaves the state as it is (rules R206, R215). -/
theorem hostWrite_cmd_nop (s : State) : hostWrite 0 0x00000000 s = .next s := by
  by_cases hd : dropped 0 s = true
  · exact writeCmd_of_dropped hd
  · exact writeCmd_of_decode hd (decodeOfEncode .nop)

/-- The words of CLRF and RST are never dropped. -/
theorem hostWrite_cmd_clrf (s : State) : hostWrite 0 0x00000001 s = exec .clrf s :=
  hostWrite_cmd_of_decode (.inr (.inl rfl)) (decodeOfEncode .clrf)

theorem hostWrite_cmd_rst (s : State) : hostWrite 0 0x00000002 s = exec .rst s :=
  hostWrite_cmd_of_decode (.inr (.inr rfl)) (decodeOfEncode .rst)

/-- Outside the generator fields RST leaves the reset values, and the host's side of the port as it was (rule
R40, log entry 16). -/
theorem resetEngine_eq_withUnitsOf (s : State) :
    resetEngine s = withUnitsOf (resetEngine s) { State.reset with inbox := s.inbox, hostData := s.hostData } :=
  rfl

/-! ### Their words -/

theorem decodeOp_nop : ∀ {k : CmdFields}, k.op = 0x00 → decodeOp k = decodePlain k .nop
  | ⟨_, _, _, _, _, _⟩, rfl => rfl

theorem decodeOp_clrf : ∀ {k : CmdFields}, k.op = 0x01 → decodeOp k = decodePlain k .clrf
  | ⟨_, _, _, _, _, _⟩, rfl => rfl

theorem decodeOp_rst : ∀ {k : CmdFields}, k.op = 0x02 → decodeOp k = decodePlain k .rst
  | ⟨_, _, _, _, _, _⟩, rfl => rfl

/-- A command without operands has one legal word: its operation code decodes to nothing else, and a word that
decodes is the word of its command (rule R61). -/
theorem eq_encode_of_decodePlain {w : Word} {i j : Instr} (h : decode w = .ok i)
    (hplain : decodeOp (CmdFields.ofWord w) = decodePlain (CmdFields.ofWord w) j) : w = encode j := by
  obtain ⟨-, hop⟩ := decode_eq_ok_iff.mp h
  obtain ⟨-, -, -, -, rfl⟩ := decodePlain_eq_ok_iff.mp (hplain ▸ hop)
  exact (encodeOfDecode w j h).symm

/-- Settles O13, command by command and word by word. -/
theorem systemCommands : Obligations.SystemCommands := by
  refine ⟨fun s => ⟨rfl, hostWrite_cmd_nop s, rfl, hostWrite_cmd_clrf s, resetEngine s, rfl, hostWrite_cmd_rst s,
    resetEngine_eq_withUnitsOf s⟩, fun w i h => ⟨fun hop => ?_, fun hop => ?_, fun hop => ?_⟩⟩
  · exact eq_encode_of_decodePlain h (decodeOp_nop hop)
  · exact eq_encode_of_decodePlain h (decodeOp_clrf hop)
  · exact eq_encode_of_decodePlain h (decodeOp_rst hop)

end Sys2Proof.Machine
end
